-- ==== Sys2Proof/Word.lean ====
section
/-! DEFINITION. The words of the block and their plainest arithmetic: bytes, the 16-bit wrapping counters, and "clamped" (spec/00_scope.md section 7). -/

namespace Sys2Proof

/-- A byte of a frame or of the stored record. -/
abbrev Byte := BitVec 8

/-- A 16-bit counter that wraps at 65,536: stamps, grant orders, sequence numbers, the notice clock, the write count. -/
abbrev Word16 := BitVec 16

/-- "Clamped" (00 section 7): the nearest end of `lo` to `hi`. -/
def clampInt (lo hi x : Int) : Int := if x < lo then lo else if hi < x then hi else x

/-- `clampInt` on naturals. -/
def clampNat (lo hi x : Nat) : Nat := if x < lo then lo else if hi < x then hi else x

/-- One more, but never above `top` (a count that stops). -/
def bumpTo (top x : Nat) : Nat := min top (x + 1)

end Sys2Proof
end

