-- ==== Sys2Proof/Syntax.lean ====
section
/-! DEFINITION. The commands of the block: one constructor of `Instr` per row of spec/opcode_table.json, with the row's operands. Meaning is given in Sys2Proof/Machine/ alone. -/

namespace Sys2Proof

/-- The three message ports (09). -/
inductive Port where
  | panel | chassis | gateway
  deriving DecidableEq, Repr

/-- The two motor axes; STEP is axis 0 and AWNING axis 1 (R94). -/
inductive Axis where
  | step | awning
  deriving DecidableEq, Repr

/-- The two pump holds of LDC (R79). -/
inductive PumpHold where
  | dryRun | dumped
  deriving DecidableEq, Repr

/-- Why CHG asks for a checkpoint write (R40). -/
inductive CheckpointCause where
  | fifteenthPush | criticalEntry
  deriving DecidableEq, Repr

/-- Why a frame in progress is abandoned by its own bytes (R158). -/
inductive AbandonCause where
  | badLength | framingError | badCrc
  deriving DecidableEq, Repr

/-- A request frame of a row that fixes its KIND: the port it came to, its TAG and its payload. -/
structure Frame where
  port : Port
  tag : Byte
  payload : List Byte
  deriving DecidableEq, Repr

/-- The commands. The comment of a group names the unit that owns them. -/
inductive Instr where
  -- resets and start-up (R175)
  | powerOnReset
  | resetn
  | storeReadComplete (fastFirst : Bool)
  -- SCV (01)
  | fastTriggerExpiry
  | slowTriggerExpiry
  | fastConversionComplete (code : BitVec 12)
  | slowConversionComplete (code : BitVec 12)
  | refchkComplete (result : BitVec 13)
  -- CHG (02)
  | suspectRunLimit
  | minutePush
  | hourPush
  | checkpointRequest (cause : CheckpointCause)
  | restWindowOpen
  | restWindowClose
  | fullSync
  | alarmChange (lvd critical : Bool)
  | supplyChange (present : Bool)
  -- LDC and OUT (03 to 05)
  | autoOffExpiry (n : Fin 14)
  | fadeStepExpiry
  | softStartExpiry (a : Axis)
  -- MOT (06)
  | hallPulse (a : Axis) (gap : Nat)
  | lastPulseTimerExpiry (a : Axis)
  | overcurrentTrip (a : Axis)
  | stoppingTimerExpiry (a : Axis)
  | jogDeadlineExpiry (a : Axis)
  | standbyTimerExpiry (a : Axis)
  | stopnActive
  | stopnInactive
  | entryOpen
  | entryClose
  | windPulse
  | windWindowEnd
  | calmTimerExpiry
  -- DLU and CWC (07, 08), and CWC's calls on LDC
  | stalenessTimerExpiry
  | minimumOffExpiry
  | fallbackRequest
  | pumpHoldCall (hold : PumpHold) (set : Bool)
  -- ports (09) and STO (10)
  | frameAbandoned (p : Port) (cause : AbandonCause)
  | gapTimerExpiry (p : Port)
  | unknownKind (kind : Byte) (f : Frame)
  | answerComplete (p : Port)
  | linkReset (p : Port)
  | noticeClockTick
  | writeComplete
  -- request frames
  | ident (f : Frame)
  | getEnergy (f : Frame)
  | getHistory (f : Frame)
  | setCharge (f : Frame)
  | getLoad (f : Frame)
  | getLoads (f : Frame)
  | setLoad (f : Frame)
  | runScene (f : Frame)
  | setScene (f : Frame)
  | getScene (f : Frame)
  | moveExtend (p : Port) (tag axis : Byte) (rest : List Byte)
  | moveRetract (p : Port) (tag axis : Byte) (rest : List Byte)
  | moveGoto (p : Port) (tag axis : Byte) (rest : List Byte)
  | moveJogOut (p : Port) (tag axis : Byte) (rest : List Byte)
  | moveJogIn (p : Port) (tag axis : Byte) (rest : List Byte)
  | moveContinue (p : Port) (tag axis : Byte) (rest : List Byte)
  | moveStop (p : Port) (tag axis : Byte) (rest : List Byte)
  | getMotion (f : Frame)
  | driveLockTake (p : Port) (tag : Byte) (rest : List Byte)
  | driveLockRelease (p : Port) (tag : Byte) (rest : List Byte)
  | vehicle (f : Frame)
  | setClimate (f : Frame)
  | getClimate (f : Frame)
  | dumpNow (p : Port) (tag : Byte) (rest : List Byte)
  | dumpClose (p : Port) (tag : Byte) (rest : List Byte)
  | getTanks (f : Frame)
  | getSetting (f : Frame)
  | putSetting (f : Frame)
  | saveSettings (f : Frame)
  | fetch (f : Frame)
  -- bytes and ticks
  | uartByteComplete (p : Port) (byte : Byte) (stopBit : Bool)
  | timebaseWrap
  | vehicleAgeTick
  deriving DecidableEq, Repr

end Sys2Proof
end

