-- ==== Sys2Proof/Decode.lean ====
section
/-! DEFINITION. The decoder of table words. spec/opcode_table.json gives no row of this block any bits (every row's "fields" is empty and none has "fixed"), so no word spells a command. The bytes of a request frame are judged by the ports: Machine/Ports.lean (R157 to R159). -/

namespace Sys2Proof

/-- The command that `nbits` bits of value `w` spell by the table's bits: none, since the table gives no bits. -/
def decodeTableWord (nbits w : Nat) : Option Instr :=
  match nbits, w with
  | _, _ => none

end Sys2Proof
end

