-- ==== Sys2Proof/Machine/Settings.lean ====
section
/-! DEFINITION. The settings of the stored record (spec/10 section 10.2): their types, defaults, identifiers, forms and ranges. -/

namespace Sys2Proof.Machine

/-- The priority class of a load record (R42). -/
inductive Tier where
  | essential | comfort | leisure
  deriving DecidableEq, Repr

/-- Tier codes: 0 ESSENTIAL, 1 COMFORT, 2 LEISURE (10 section 10.2). -/
def Tier.code : Tier → Nat
  | .essential => 0
  | .comfort => 1
  | .leisure => 2

/-- The tier of a code. -/
def Tier.ofCode : Nat → Option Tier
  | 0 => some .essential
  | 1 => some .comfort
  | 2 => some .leisure
  | _ => none

/-- Every setting. Scalars that are never negative are naturals. -/
structure Settings where
  zeroOffset : Int
  cap : Nat
  eta : Nat
  factors : List Nat
  ocvEnable : Bool
  ocvTable : List (Nat × Nat)
  restThreshold : Nat
  restPeriod : Nat
  fullVoltage : Nat
  tailCurrent : Nat
  lvdVoltage : Nat
  criticalVoltage : Nat
  batteryLimit : Nat
  shoreAllowance : Nat
  alternatorAllowance : Nat
  floorEssential : Nat
  floorComfort : Nat
  floorLeisure : Nat
  tier : Vector Tier 14
  declared : Vector Nat 14
  dimCap : Vector Nat 6
  fadeRate : Vector Nat 6
  stepTravel : Nat
  awningTravel : Nat
  stepTrip : Nat
  awningTrip : Nat
  backOff : Nat
  autoStep : Bool
  windLimit : Nat
  calmPeriod : Nat
  dumpThreshold : Int
  freshLow : Nat
  greyFull : Nat
  freshTable : List (Nat × Nat)
  greyTable : List (Nat × Nat)
  deriving DecidableEq, Repr

/-- The default tank table (R137). -/
def defaultTankTable : List (Nat × Nat) :=
  [(400, 0), (1100, 20), (1800, 40), (2500, 60), (3200, 80), (3900, 100)]

/-- The defaults of every owning rule (R3, R18, R42, R44, R63, R67, R95, R137; R176). -/
def Settings.default : Settings where
  zeroOffset := 0
  cap := 100000
  eta := 243
  factors := [166, 192, 218, 240, 256]
  ocvEnable := true
  ocvTable := [(11650, 0), (11900, 200), (12050, 300), (12200, 500), (12320, 600), (12450, 750), (12580, 900), (12700, 1000)]
  restThreshold := 3
  restPeriod := 120
  fullVoltage := 14200
  tailCurrent := 20
  lvdVoltage := 11000
  criticalVoltage := 10500
  batteryLimit := 1000
  shoreAllowance := 100
  alternatorAllowance := 250
  floorEssential := 100
  floorComfort := 300
  floorLeisure := 500
  tier := #v[.comfort, .leisure, .leisure, .leisure, .leisure, .leisure, .comfort, .comfort, .essential, .essential,
    .comfort, .leisure, .comfort, .leisure]
  declared := #v[20, 20, 20, 20, 20, 20, 70, 80, 60, 3, 50, 30, 80, 120]
  dimCap := #v[64, 64, 64, 64, 64, 64]
  fadeRate := #v[4, 4, 4, 4, 4, 4]
  stepTravel := 240
  awningTravel := 3600
  stepTrip := 1500
  awningTrip := 2500
  backOff := 16
  autoStep := true
  windLimit := 45
  calmPeriod := 10
  dumpThreshold := 10
  freshLow := 5
  greyFull := 90
  freshTable := defaultTankTable
  greyTable := defaultTankTable

/-- The two tanks; fresh is tank 0 and grey tank 1 (08 section 8.8). -/
inductive Tank where
  | fresh | grey
  deriving DecidableEq, Repr

/-- The settings by identifier (10 section 10.2). -/
inductive SettingId where
  | zeroOffset | cap | eta | factors | ocvEnable | ocvTable
  | restThreshold | restPeriod | fullVoltage | tailCurrent | lvdVoltage | criticalVoltage
  | batteryLimit | shoreAllowance | alternatorAllowance
  | floor (t : Tier)
  | tier (n : Fin 14)
  | declared (n : Fin 14)
  | dimCap (n : Fin 6)
  | fadeRate (n : Fin 6)
  | travel (a : Axis)
  | trip (a : Axis)
  | backOff | autoStep | windLimit | calmPeriod
  | dumpThreshold | freshLow | greyFull
  | tankTable (t : Tank)
  deriving DecidableEq, Repr

/-- The setting of an id byte; ids 40 and 41 and every id not in the table are unknown. -/
def SettingId.ofNat (k : Nat) : Option SettingId :=
  match k with
  | 1 => some .zeroOffset
  | 2 => some .cap
  | 3 => some .eta
  | 4 => some .factors
  | 5 => some .ocvEnable
  | 6 => some .ocvTable
  | 7 => some .restThreshold
  | 8 => some .restPeriod
  | 9 => some .fullVoltage
  | 10 => some .tailCurrent
  | 11 => some .lvdVoltage
  | 12 => some .criticalVoltage
  | 16 => some .batteryLimit
  | 17 => some .shoreAllowance
  | 18 => some .alternatorAllowance
  | 19 => some (.floor .essential)
  | 20 => some (.floor .comfort)
  | 21 => some (.floor .leisure)
  | 80 => some (.travel .step)
  | 81 => some (.travel .awning)
  | 82 => some (.trip .step)
  | 83 => some (.trip .awning)
  | 84 => some .backOff
  | 85 => some .autoStep
  | 86 => some .windLimit
  | 87 => some .calmPeriod
  | 96 => some .dumpThreshold
  | 97 => some .freshLow
  | 98 => some .greyFull
  | 99 => some (.tankTable .fresh)
  | 100 => some (.tankTable .grey)
  | _ =>
    if h : 32 ≤ k ∧ k < 46 ∧ k ≠ 40 ∧ k ≠ 41 then some (.tier ⟨k - 32, by omega⟩)
    else if h : 48 ≤ k ∧ k < 62 then some (.declared ⟨k - 48, by omega⟩)
    else if h : 64 ≤ k ∧ k < 70 then some (.dimCap ⟨k - 64, by omega⟩)
    else if h : 72 ≤ k ∧ k < 78 then some (.fadeRate ⟨k - 72, by omega⟩)
    else none

/-- The settings in rising id order, as the stored record holds them (R181). -/
def settingOrder : List SettingId := (List.range 101).filterMap SettingId.ofNat

/-- The four forms of a value, with the table's lengths (10 section 10.2, R172 check (5)). -/
inductive SettingForm where
  | scalar | tier | onOff | factorTable | ocvTable | tankTable
  deriving DecidableEq, Repr

/-- The form of a setting. -/
def SettingId.form : SettingId → SettingForm
  | .factors => .factorTable
  | .ocvEnable => .onOff
  | .ocvTable => .ocvTable
  | .tier _ => .tier
  | .autoStep => .onOff
  | .tankTable _ => .tankTable
  | _ => .scalar

/-- The length of a value in bytes: a scalar 4, a tier or on/off value 1, the factor table 10, the OCV table 32, a tank table 18. -/
def SettingForm.len : SettingForm → Nat
  | .scalar => 4
  | .tier => 1
  | .onOff => 1
  | .factorTable => 10
  | .ocvTable => 32
  | .tankTable => 18

/-- A value in one of the forms. A table holds (voltage, SoC) or (code, percent) points in table order. -/
inductive SettingValue where
  | scalar (v : Int)
  | tier (t : Tier)
  | onOff (b : Bool)
  | factorTable (l : List Nat)
  | pointTable (l : List (Nat × Nat))
  deriving DecidableEq, Repr

/-- The value of a setting. -/
def Settings.get (st : Settings) : SettingId → SettingValue
  | .zeroOffset => .scalar st.zeroOffset
  | .cap => .scalar st.cap
  | .eta => .scalar st.eta
  | .factors => .factorTable st.factors
  | .ocvEnable => .onOff st.ocvEnable
  | .ocvTable => .pointTable st.ocvTable
  | .restThreshold => .scalar st.restThreshold
  | .restPeriod => .scalar st.restPeriod
  | .fullVoltage => .scalar st.fullVoltage
  | .tailCurrent => .scalar st.tailCurrent
  | .lvdVoltage => .scalar st.lvdVoltage
  | .criticalVoltage => .scalar st.criticalVoltage
  | .batteryLimit => .scalar st.batteryLimit
  | .shoreAllowance => .scalar st.shoreAllowance
  | .alternatorAllowance => .scalar st.alternatorAllowance
  | .floor .essential => .scalar st.floorEssential
  | .floor .comfort => .scalar st.floorComfort
  | .floor .leisure => .scalar st.floorLeisure
  | .tier n => .tier st.tier[n]
  | .declared n => .scalar st.declared[n]
  | .dimCap n => .scalar st.dimCap[n]
  | .fadeRate n => .scalar st.fadeRate[n]
  | .travel .step => .scalar st.stepTravel
  | .travel .awning => .scalar st.awningTravel
  | .trip .step => .scalar st.stepTrip
  | .trip .awning => .scalar st.awningTrip
  | .backOff => .scalar st.backOff
  | .autoStep => .onOff st.autoStep
  | .windLimit => .scalar st.windLimit
  | .calmPeriod => .scalar st.calmPeriod
  | .dumpThreshold => .scalar st.dumpThreshold
  | .freshLow => .scalar st.freshLow
  | .greyFull => .scalar st.greyFull
  | .tankTable .fresh => .pointTable st.freshTable
  | .tankTable .grey => .pointTable st.greyTable

/-- Store a scalar as it stands (its range is judged by `Settings.clamp`). -/
def Settings.putScalar (st : Settings) (i : SettingId) (v : Int) : Settings :=
  match i with
  | .zeroOffset => { st with zeroOffset := v }
  | .cap => { st with cap := v.toNat }
  | .eta => { st with eta := v.toNat }
  | .restThreshold => { st with restThreshold := v.toNat }
  | .restPeriod => { st with restPeriod := v.toNat }
  | .fullVoltage => { st with fullVoltage := v.toNat }
  | .tailCurrent => { st with tailCurrent := v.toNat }
  | .lvdVoltage => { st with lvdVoltage := v.toNat }
  | .criticalVoltage => { st with criticalVoltage := v.toNat }
  | .batteryLimit => { st with batteryLimit := v.toNat }
  | .shoreAllowance => { st with shoreAllowance := v.toNat }
  | .alternatorAllowance => { st with alternatorAllowance := v.toNat }
  | .floor .essential => { st with floorEssential := v.toNat }
  | .floor .comfort => { st with floorComfort := v.toNat }
  | .floor .leisure => { st with floorLeisure := v.toNat }
  | .declared n => { st with declared := st.declared.set n v.toNat }
  | .dimCap n => { st with dimCap := st.dimCap.set n v.toNat }
  | .fadeRate n => { st with fadeRate := st.fadeRate.set n v.toNat }
  | .travel .step => { st with stepTravel := v.toNat }
  | .travel .awning => { st with awningTravel := v.toNat }
  | .trip .step => { st with stepTrip := v.toNat }
  | .trip .awning => { st with awningTrip := v.toNat }
  | .backOff => { st with backOff := v.toNat }
  | .windLimit => { st with windLimit := v.toNat }
  | .calmPeriod => { st with calmPeriod := v.toNat }
  | .dumpThreshold => { st with dumpThreshold := v }
  | .freshLow => { st with freshLow := v.toNat }
  | .greyFull => { st with greyFull := v.toNat }
  | _ => st

/-- Store a value of the setting's form; a value of another form changes nothing. -/
def Settings.put (st : Settings) (i : SettingId) (v : SettingValue) : Settings :=
  match v with
  | .scalar x => st.putScalar i x
  | .tier t => match i with
    | .tier n => { st with tier := st.tier.set n t }
    | _ => st
  | .onOff b => match i with
    | .ocvEnable => { st with ocvEnable := b }
    | .autoStep => { st with autoStep := b }
    | _ => st
  | .factorTable l => match i with
    | .factors => { st with factors := l }
    | _ => st
  | .pointTable l => match i with
    | .ocvTable => { st with ocvTable := l }
    | .tankTable .fresh => { st with freshTable := l }
    | .tankTable .grey => { st with greyTable := l }
    | _ => st

/-- The range of a scalar (R3, R18, R44, R63, R67, R95, R137). -/
def SettingId.range : SettingId → Int × Int
  | .zeroOffset => (-64, 63)
  | .cap => (20000, 800000)
  | .eta => (200, 256)
  | .restThreshold => (1, 20)
  | .restPeriod => (30, 480)
  | .fullVoltage => (13600, 14800)
  | .tailCurrent => (5, 100)
  | .lvdVoltage => (10500, 12000)
  | .criticalVoltage => (9600, 11000)
  | .batteryLimit => (400, 3000)
  | .shoreAllowance => (0, 500)
  | .alternatorAllowance => (0, 800)
  | .floor .essential => (0, 500)
  | .floor .comfort => (100, 800)
  | .floor .leisure => (100, 900)
  | .declared _ => (0, 250)
  | .dimCap _ => (0, 255)
  | .fadeRate _ => (1, 255)
  | .travel .step => (50, 1000)
  | .travel .awning => (500, 8000)
  | .trip _ => (500, 4000)
  | .backOff => (0, 64)
  | .windLimit => (5, 200)
  | .calmPeriod => (1, 60)
  | .dumpThreshold => (-20, 40)
  | .freshLow => (0, 20)
  | .greyFull => (50, 100)
  | _ => (0, 0)

/-- The second clamp, against the settings in force: CRITICAL to at most LVD - 300 (R18), and the floors against one another (R67). -/
def Settings.clampAgainst (st : Settings) (i : SettingId) (v : Int) : Int :=
  match i with
  | .criticalVoltage => min v ((st.lvdVoltage : Int) - 300)
  | .floor .essential => min v st.floorComfort
  | .floor .comfort => clampInt st.floorEssential st.floorLeisure v
  | .floor .leisure => max v st.floorComfort
  | _ => v

/-- The value that a PUT_SETTING of a scalar takes: clamped to the range, then against the other settings. -/
def Settings.clamp (st : Settings) (i : SettingId) (v : Int) : Int :=
  st.clampAgainst i (clampInt i.range.1 i.range.2 v)

/-- Strictly rising. -/
def strictlyRising : List Nat → Bool
  | a :: b :: rest => a < b && strictlyRising (b :: rest)
  | _ => true

/-- Never falling. -/
def neverFalling : List Nat → Bool
  | a :: b :: rest => a ≤ b && neverFalling (b :: rest)
  | _ => true

/-- The validation of the owning rule of a table (R18, R137). -/
def tableValid (i : SettingId) (v : SettingValue) : Bool :=
  match i, v with
  | .factors, .factorTable l => l.all (fun k => 64 ≤ k && k ≤ 256) && neverFalling l
  | .ocvTable, .pointTable l =>
    l.all (fun p => p.1 ≤ 20475 && p.2 ≤ 1000) && strictlyRising (l.map (·.1)) && strictlyRising (l.map (·.2))
  | .tankTable _, .pointTable l =>
    l.all (fun p => p.1 ≤ 4095 && p.2 ≤ 100) && (strictlyRising (l.map (·.1)) || strictlyRising (l.map (·.1)).reverse)
      && neverFalling (l.map (·.2))
  | _, _ => true

/-- The travel of an axis. -/
def Settings.travel (st : Settings) : Axis → Nat
  | .step => st.stepTravel
  | .awning => st.awningTravel

/-- The over-current trip of an axis. -/
def Settings.trip (st : Settings) : Axis → Nat
  | .step => st.stepTrip
  | .awning => st.awningTrip

/-- The floor of a tier. -/
def Settings.floor (st : Settings) : Tier → Nat
  | .essential => st.floorEssential
  | .comfort => st.floorComfort
  | .leisure => st.floorLeisure

/-- The dim cap of a record, 0 for records 6 to 13 (11 section 11.4). -/
def Settings.dimCapOf (st : Settings) (n : Fin 14) : Nat :=
  if h : n.val < 6 then st.dimCap[n.val] else 0

/-- The fade rate of a record, 0 for records 6 to 13 (11 section 11.4). -/
def Settings.fadeRateOf (st : Settings) (n : Fin 14) : Nat :=
  if h : n.val < 6 then st.fadeRate[n.val] else 0

end Sys2Proof.Machine
end

