-- ==== Sys2Proof/Machine/Operands.lean ====
section
/-! DEFINITION. The operand and answer forms: little-endian numbers (R179), the two checks CRC-8 and CRC-16 (R180, R181), the forms of setting values (10 section 10.2), and the piecewise-linear tables (R23, R32, R151). -/

namespace Sys2Proof.Machine

/-- A one-byte item. -/
def byteOf (n : Nat) : Byte := BitVec.ofNat 8 n

/-- A mark takes one byte, 1 for set and 0 for clear (R179). -/
def markByte (b : Bool) : Byte := if b then 1 else 0

/-- A two-byte little-endian number; a negative one in two's complement (R179). -/
def le2 (x : Int) : List Byte :=
  let v := BitVec.ofInt 16 x
  [v.setWidth 8, (v >>> 8).setWidth 8]

/-- A four-byte little-endian signed number (R179). -/
def le4 (x : Int) : List Byte :=
  let v := BitVec.ofInt 32 x
  [v.setWidth 8, (v >>> 8).setWidth 8, (v >>> 16).setWidth 8, (v >>> 24).setWidth 8]

/-- An absent field is 0x8000 in a signed two-byte field (R179). -/
def le2Signed (x : Option Int) : List Byte := le2 (x.getD 0x8000)

/-- An absent field is 0xFFFF in an unsigned two-byte field (R179). -/
def le2Unsigned (x : Option Nat) : List Byte := le2 ((x.getD 0xFFFF : Nat) : Int)

/-- The unsigned value of little-endian bytes. -/
def readLe : List Byte → Nat
  | [] => 0
  | b :: rest => b.toNat + 256 * readLe rest

/-- The signed value of two little-endian bytes. -/
def readLe2Signed (l : List Byte) : Int := (BitVec.ofNat 16 (readLe l)).toInt

/-- The signed value of four little-endian bytes. -/
def readLe4Signed (l : List Byte) : Int := (BitVec.ofNat 32 (readLe l)).toInt

/-- One step of the CRC-8 register (R180): shift left, and exclusive-or 0x07 if the top bit was 1. -/
def crc8Shift (r : Byte) : Byte := if r.msb then (r <<< 1) ^^^ 0x07 else r <<< 1

/-- A covered byte of the CRC-8 (R180). -/
def crc8Byte (r b : Byte) : Byte := Nat.iterate crc8Shift 8 (r ^^^ b)

/-- The CRC-8 of covered bytes (R159, R180); the register starts at 0. -/
def crc8 (l : List Byte) : Byte := l.foldl crc8Byte 0

/-- One step of the CRC-16 register (R181). -/
def crc16Shift (r : Word16) : Word16 := if r.msb then (r <<< 1) ^^^ 0x1021 else r <<< 1

/-- A byte of the CRC-16, exclusive-ored into the upper eight bits (R181). -/
def crc16Byte (r : Word16) (b : Byte) : Word16 := Nat.iterate crc16Shift 8 (r ^^^ (b.setWidth 16 <<< 8))

/-- The CRC-16 of the stored record (R170, R181); the register starts at 0xFFFF. -/
def crc16 (l : List Byte) : Word16 := l.foldl crc16Byte 0xFFFF

/-- Linear interpolation in a table of points with rising first column, truncated toward zero; beyond an end, that end's value. -/
def interpolate : List (Int × Int) → Int → Int
  | [], _ => 0
  | [p], _ => p.2
  | p :: q :: rest, x =>
    if x ≤ p.1 then p.2
    else if x < q.1 then p.2 + Int.tdiv ((q.2 - p.2) * (x - p.1)) (q.1 - p.1)
    else interpolate (q :: rest) x

/-- A point table as integers. -/
def points (l : List (Nat × Nat)) : List (Int × Int) := l.map (fun p => ((p.1 : Int), (p.2 : Int)))

/-- The temperature factor k(T) from the table, in 1/256 (R23). -/
def factorAt (factors : List Nat) (t : Int) : Nat :=
  (interpolate (List.zip [-200, -100, 0, 100, 250] (factors.map (fun k => (k : Int)))) t).toNat

/-- The state of charge read from the OCV table, in 0.1 % (R32 step (2)). -/
def ocvEstimate (table : List (Nat × Nat)) (mv : Nat) : Nat := (interpolate (points table) mv).toNat

/-- Whether a tank table's codes rise (R137). -/
def risingTable (l : List (Nat × Nat)) : Bool := strictlyRising (l.map (·.1))

/-- The level of a median code, in percent (R151). A table with falling codes is read with codes and median negated, which leaves each
quotient of R151 as it is. -/
def tankLevel (table : List (Nat × Nat)) (m : Nat) : Nat :=
  let p := points table
  let v := if risingTable table then interpolate p m else interpolate (p.map (fun q => (-q.1, q.2))) (-(m : Int))
  (clampInt 0 100 v).toNat

/-- Insert a code into a rising list. -/
def insertCode (c : Nat) : List Nat → List Nat
  | [] => [c]
  | d :: rest => if c ≤ d then c :: d :: rest else d :: insertCode c rest

/-- Codes in rising order. -/
def sortCodes (l : List Nat) : List Nat := l.foldr insertCode []

/-- The median of the n codes present: the one at place (n + 1) / 2 from the lowest (R151). -/
def medianCode (l : List Nat) : Nat := (sortCodes l).getD ((l.length + 1) / 2 - 1) 0

/-- The bytes of a value in its form (10 section 10.2, R181): table points in table order, the code or voltage before the percent or SoC.
`wide` says that a point's second number takes two bytes (the OCV table) and not one. -/
def SettingValue.bytes (wide : Bool) : SettingValue → List Byte
  | .scalar v => le4 v
  | .tier t => [byteOf t.code]
  | .onOff b => [markByte b]
  | .factorTable l => l.flatMap (fun k => le2 (k : Int))
  | .pointTable l => l.flatMap (fun p => le2 (p.1 : Int) ++ (if wide then le2 (p.2 : Int) else [byteOf p.2]))

/-- The bytes of a setting's value. -/
def settingBytes (st : Settings) (i : SettingId) : List Byte := (st.get i).bytes (i.form == .ocvTable)

/-- The numbers of a run of two-byte fields. -/
def readPairs : Nat → List Byte → List Nat
  | 0, _ => []
  | n + 1, l => readLe (l.take 2) :: readPairs n (l.drop 2)

/-- The points of a table whose second number takes `w` bytes. -/
def readPoints (w : Nat) : Nat → List Byte → List (Nat × Nat)
  | 0, _ => []
  | n + 1, l => (readLe (l.take 2), readLe ((l.drop 2).take w)) :: readPoints w n (l.drop (2 + w))

/-- The value that bytes of a form's length give; none for a tier above 2 or an on/off value above 1 (R172 check (6)). -/
def readValue (f : SettingForm) (l : List Byte) : Option SettingValue :=
  match f with
  | .scalar => some (.scalar (readLe4Signed l))
  | .tier => (Tier.ofCode (readLe l)).map .tier
  | .onOff => if readLe l ≤ 1 then some (.onOff (readLe l == 1)) else none
  | .factorTable => some (.factorTable (readPairs 5 l))
  | .ocvTable => some (.pointTable (readPoints 2 8 l))
  | .tankTable => some (.pointTable (readPoints 1 6 l))

/-- The status codes of R164. -/
inductive Status where
  | ok | clamped | queued | unknownKind | badLength | badTarget | noRight | owned | locked
  | stopped | wind | faulted | cold | badTable | notReady
  deriving DecidableEq, Repr

/-- The code of a status (R164; 9 is not used). -/
def Status.code : Status → Nat
  | .ok => 0
  | .clamped => 1
  | .queued => 2
  | .unknownKind => 3
  | .badLength => 4
  | .badTarget => 5
  | .noRight => 6
  | .owned => 7
  | .locked => 8
  | .stopped => 10
  | .wind => 11
  | .faulted => 12
  | .cold => 13
  | .badTable => 14
  | .notReady => 15

/-- What a request is answered: its status and its answer record. -/
structure Reply where
  status : Status
  payload : List Byte
  deriving DecidableEq, Repr

/-- A refusal carries no payload (R161). -/
def Reply.refuse (st : Status) : Reply := ⟨st, []⟩

/-- SYNC (11 section 11.1). -/
def syncByte : Byte := 0xC3

/-- The answer frame: SYNC, LEN, the answer marker 0x80, TAG, STATUS, the payload and the CRC over LEN to the payload (R161, 11 section 11.1). -/
def answerFrame (tag : Byte) (r : Reply) : List Byte :=
  let covered := [byteOf r.payload.length, 0x80, tag, byteOf r.status.code] ++ r.payload
  syncByte :: covered ++ [crc8 covered]

/-- The bytes of a request frame: SYNC, LEN, KIND, TAG, the payload and the CRC (R159, 11 section 11.1). -/
def requestFrame (kind tag : Byte) (payload : List Byte) : List Byte :=
  let covered := [byteOf payload.length, kind, tag] ++ payload
  syncByte :: covered ++ [crc8 covered]

end Sys2Proof.Machine
end

