-- ==== Sys2Proof/Config.lean ====
section
/-! DEFINITION. What is fixed for the part, and the free value of the model. -/

namespace Sys2Proof

/-- The part code of IDENT (R178). -/
def Config.partCode : Nat := 0x4812

/-- The design revision of IDENT (R178). -/
def Config.revision : Nat := 1

/-- FREE VALUE (log 12). A checkpoint write that the entry of CRITICAL asks for may start before LDC applies the alarms, and then
stores the dump state as it was, or after, and then stores it as LDC's event left it: 12 section 12.1 states both and does not choose.
`true` at the k-th such write: it started after. -/
opaque Config.checkpointSeesGates : Nat → Bool

end Sys2Proof
end

