-- ==== Sys2Proof/Machine/State.lean ====
section
/-! DEFINITION. The state of the block as plain data, its stops, and the state after reset. Each structure names the rule of spec/ that gives its fields and reset values; INVENTORY.md lists every field. -/

namespace Sys2Proof.Machine

/-! ## SCV (01) -/

/-- Which kind of conversion is in flight (R4). -/
inductive Lane where
  | fast | slow
  deriving DecidableEq, Repr

/-- A result slot (R2). `reading` is `none` in NO_VALUE, else the code and the value formed from it by R1. -/
structure Slot where
  reading : Option (BitVec 12 × Int)
  fault : Bool
  suspect : Bool
  deriving DecidableEq, Repr

/-- SCV. A group or scan in progress holds the channel or list entry that is converted next or in flight (R4, R5, R8). -/
structure Scv where
  timers : Bool
  fastGroup : Option (Fin 4)
  slowScan : Option (Fin 8)
  inFlight : Option Lane
  buffer : List (BitVec 12)
  slots : Vector Slot 11
  missed : Nat
  refFault : Bool
  overrun : Bool
  saturated : Bool
  deriving DecidableEq, Repr

/-- R15. -/
def Scv.reset : Scv where
  timers := false
  fastGroup := none
  slowScan := none
  inFlight := none
  buffer := []
  slots := Vector.replicate 11 ⟨none, false, false⟩
  missed := 0
  refFault := false
  overrun := false
  saturated := false

/-! ## CHG (02) -/

/-- An hour entry (R27). -/
structure HourEntry where
  net : Int
  lowSoc : Option Nat
  lowOutside : Option Int
  deriving DecidableEq, Repr

/-- The rest-calibration state (R30, R31). -/
inductive Rest where
  | idle
  | timing (timer : Nat)
  | averaging (sum count periods : Nat)
  deriving DecidableEq, Repr

/-- CHG (R17). Cu and k are computed from the settings and `temp`. -/
structure Chg where
  accountSet : Bool
  content : Nat
  residue : Int
  synced : Bool
  soc : Nat
  temp : Option Int
  minuteAcc : Int
  periodCount : Nat
  minuteRing : List Int
  minuteSeq : Word16
  hourRing : List HourEntry
  hourSeq : Word16
  pushesSinceHour : Nat
  checkpointPushes : Nat
  lowSoc : Option Nat
  lowOutside : Option Int
  suspectRun : Nat
  ttf : Nat
  rest : Rest
  fullTimer : Nat
  fullArmed : Bool
  lvd : Bool
  lvdCount : Nat
  critical : Bool
  criticalCount : Nat
  supply : Bool
  supplyCount : Nat
  deriving DecidableEq, Repr

/-- R17. The values of an unset account are the model's (DESIGN CHOICE, unsafe, log 9). -/
def Chg.reset : Chg where
  accountSet := false
  content := 0
  residue := 0
  synced := false
  soc := 0
  temp := none
  minuteAcc := 0
  periodCount := 0
  minuteRing := []
  minuteSeq := 0
  hourRing := []
  hourSeq := 0
  pushesSinceHour := 0
  checkpointPushes := 0
  lowSoc := none
  lowOutside := none
  suspectRun := 0
  ttf := 65535
  rest := .timing 0
  fullTimer := 0
  fullArmed := true
  lvd := false
  lvdCount := 0
  critical := false
  criticalCount := 0
  supply := false
  supplyCount := 0

/-! ## LDC (03, 04) -/

/-- The owners of a load record (R45). -/
inductive Owner where
  | panel | gateway | motion | climate
  deriving DecidableEq, Repr

/-- Why a record is GATED (R43). -/
inductive GateReason where
  | energy | voltage | critical | dryRun | dumped
  deriving DecidableEq, Repr

/-- The state of a record that is not OFF, with the fields that this state alone has (R43). -/
inductive Phase where
  | pending (restoring : Bool)
  | granted (order : Word16) (counted : Nat)
  | gated (reason : GateReason)
  deriving DecidableEq, Repr

/-- A load record that is not OFF (R43). `autoOff` is the auto-off time left in seconds, if a timer runs (log 4). -/
structure Load where
  owner : Owner
  level : Nat
  tier : Tier
  stamp : Word16
  autoOff : Option Nat
  phase : Phase
  deriving DecidableEq, Repr

/-- One Bool per tier. -/
structure PerTier where
  essential : Bool
  comfort : Bool
  leisure : Bool
  deriving DecidableEq, Repr

/-- An entry of a scene: output and level (R59). -/
structure SceneEntry where
  output : Fin 14
  level : Byte
  deriving DecidableEq, Repr

/-- LDC. `loads` holds `none` for OFF. The pending list, G, the tier conditions and the capped state are computed (Flags.lean). -/
structure Ldc where
  loads : Vector (Option Load) 14
  stampCounter : Word16
  grantCounter : Word16
  gateOpen : PerTier
  supply : Bool
  engine : Bool
  lvd : Bool
  critical : Bool
  soc : Option Nat
  budget : Nat
  dryRunHold : Bool
  dumpedHold : Bool
  scenes : Vector (List SceneEntry) 8
  deriving DecidableEq, Repr

/-- R43, R46, R63, R68, R69, R79: every record OFF, the counters 0, the gates open, the inputs absent, the holds clear; B is the
default battery limit until the settings are loaded (DESIGN CHOICE, unsafe, log 9). -/
def Ldc.reset : Ldc where
  loads := Vector.replicate 14 none
  stampCounter := 0
  grantCounter := 0
  gateOpen := ⟨true, true, true⟩
  supply := false
  engine := false
  lvd := false
  critical := false
  soc := none
  budget := 1000
  dryRunHold := false
  dumpedHold := false
  scenes := Vector.replicate 8 []

/-! ## OUT (05) -/

/-- The state of an H-bridge (R88); the numbering of 11 section 11.5. -/
inductive BridgeState where
  | coast | driveOut | driveIn | brake
  deriving DecidableEq, Repr

/-- One bridge (R88, R89). -/
structure Bridge where
  requested : BridgeState
  effective : BridgeState
  duty : Nat
  softStart : Bool
  deriving DecidableEq, Repr

/-- OUT. `compare` is the compare value in force of G0 to G15, `waiting` the one that the next wrap loads (R82). -/
structure Out where
  timebase : Nat
  target : Vector Nat 14
  level : Vector Nat 14
  compare : Vector Nat 16
  waiting : Vector (Option Nat) 16
  step : Bridge
  awning : Bridge
  deriving DecidableEq, Repr

/-- R92. -/
def Out.reset : Out where
  timebase := 0
  target := Vector.replicate 14 0
  level := Vector.replicate 14 0
  compare := Vector.replicate 16 0
  waiting := Vector.replicate 16 none
  step := ⟨.coast, .coast, 0, false⟩
  awning := ⟨.coast, .coast, 0, false⟩

/-! ## MOT (06) -/

/-- The state of an axis (R94), in the order of its numbering. -/
inductive AxisState where
  | idle | waitMotor | waitGrant | running | standby | stopping | fault
  deriving DecidableEq, Repr

/-- A direction of travel (R94). -/
inductive Dir where
  | outward | inward
  deriving DecidableEq, Repr

/-- A segment of a plan (R94): `toEnd` marks an END segment, else it is a TARGET segment. -/
structure Segment where
  dir : Dir
  target : Nat
  toEnd : Bool
  deriving DecidableEq, Repr

/-- A plan of one or two segments, with the current one marked (R94). -/
structure Plan where
  first : Segment
  second : Option Segment
  onSecond : Bool
  deriving DecidableEq, Repr

/-- The mode of a plan (R94). -/
inductive Mode where
  | auto | jog
  deriving DecidableEq, Repr

/-- Who gave the plan (R94), in the order of its numbering. -/
inductive Source where
  | panel | chassis | gateway | entry | wind | lock
  deriving DecidableEq, Repr

/-- Motion faults (R94), in the order of their numbering from 1. -/
inductive MotionFault where
  | obstruction | overcurrent | noPulse | overrun
  deriving DecidableEq, Repr

/-- Why a plan is halted: what R107's table raises at its end. -/
inductive HaltCause where
  | stop | stopn | grantLost | wind | lock | linkReset
  deriving DecidableEq, Repr

/-- What follows STOPPING (R106). -/
inductive Continuation where
  | next | newPlan | wait | standby | resume
  | halt (cause : HaltCause)
  | backOff
  | fault
  deriving DecidableEq, Repr

/-- An axis record (R94). Timers are held as running or stopped (log 4). `backOff` is the back-off target from a pinch until FAULT
(R109); `held` is the source of a RETRACT held until FAULT is entered (R108). -/
structure AxisRec where
  state : AxisState
  position : Nat
  known : Bool
  plan : Option Plan
  mode : Mode
  source : Option Source
  jogPort : Option Port
  jogLive : Bool
  standbyTimer : Bool
  faultKind : Option MotionFault
  countDir : Option Dir
  lastPulse : Bool
  firstPulse : Bool
  pulsePeriod : Nat
  overCount : Nat
  continuation : Option Continuation
  backOff : Option Nat
  held : Option Source
  deriving DecidableEq, Repr

/-- R94. -/
def AxisRec.reset : AxisRec where
  state := .idle
  position := 0
  known := false
  plan := none
  mode := .auto
  source := none
  jogPort := none
  jogLive := false
  standbyTimer := false
  faultKind := none
  countDir := none
  lastPulse := false
  firstPulse := false
  pulsePeriod := 0
  overCount := 0
  continuation := none
  backOff := none
  held := none

/-- A report of LDC to MOT on an axis record (R54, section 6.7): granted or restored, or shed or gated. -/
structure MotReport where
  axis : Axis
  granted : Bool
  deriving DecidableEq, Repr

/-- MOT: the two axes, the motor sense (R100), the STOPN and ENTRY pins, the wind monitor (R118), and the model's own list of
reports that MOT has not acted on yet (log 14). -/
structure Mot where
  step : AxisRec
  awning : AxisRec
  sense : Option Axis
  stopn : Bool
  entryOpen : Bool
  windCount : Nat
  prevAbove : Bool
  windHold : Bool
  calmTimer : Bool
  reports : List MotReport
  deriving DecidableEq, Repr

/-- R94, R100, R118. The pins hold the levels that the outside gives; here STOPN inactive and the contact closed (DESIGN CHOICE,
unsafe, log 10). -/
def Mot.reset : Mot where
  step := .reset
  awning := .reset
  sense := none
  stopn := false
  entryOpen := false
  windCount := 0
  prevAbove := false
  windHold := false
  calmTimer := false
  reports := []

/-! ## DLU (07) -/

/-- The drive lock (R127), in the order of its numbering. -/
inductive LockState where
  | free | pending | held
  deriving DecidableEq, Repr

/-- DLU: the vehicle record (R122) and the drive lock (R127). `age` counts 0.1 s. -/
structure Dlu where
  ignition : Bool
  engine : Bool
  moving : Bool
  stale : Bool
  engineInForce : Bool
  age : Option Nat
  staleTimer : Bool
  lock : LockState
  lockFault : Bool
  stepMark : Bool
  awningMark : Bool
  deriving DecidableEq, Repr

/-- R122, R127. -/
def Dlu.reset : Dlu where
  ignition := false
  engine := false
  moving := false
  stale := false
  engineInForce := false
  age := none
  staleTimer := false
  lock := .free
  lockFault := false
  stepMark := false
  awningMark := false

/-! ## CWC (08) -/

/-- Heating modes (R138), in the order of their numbering. -/
inductive HeatMode where
  | off | frost | eco | comfort | fallback
  deriving DecidableEq, Repr

/-- The dump state (R145), in the order of its numbering. -/
inductive DumpState where
  | startup | closing | closed | dumped
  deriving DecidableEq, Repr

/-- A held temperature and its degraded mark (R135). -/
structure HeldTemp where
  value : Option Int
  degraded : Bool
  deriving DecidableEq, Repr

/-- The temperature in use with its source (R135); `notFormed` until the first handing-on of T_OUTSIDE (R136). -/
inductive TempInUse where
  | notFormed
  | noSource
  | fresh (t : Int)
  | outside (t : Int)
  deriving DecidableEq, Repr

/-- A tank's level record (section 8.8): the median buffer holds up to five codes, oldest first. -/
structure TankRec where
  level : Option Nat
  frozen : Bool
  fault : Bool
  buffer : List Nat
  deriving DecidableEq, Repr

/-- CWC (R136). `minOff` is the minimum-off time left in seconds (log 4); `storedClosed` says that the stored dump state is CLOSED
(R150); `freeze` is CWC's copy of the freeze condition (R126). -/
structure Cwc where
  setMode : HeatMode
  effMode : HeatMode
  target : Int
  demand : Bool
  minOff : Option Nat
  tFresh : HeldTemp
  tCabin : HeldTemp
  tOutside : HeldTemp
  temp : TempInUse
  padDuty : Nat
  dump : DumpState
  storedClosed : Bool
  fresh : TankRec
  grey : TankRec
  freshLowArmed : Bool
  faultArmed : Bool
  greyFullArmed : Bool
  freeze : Bool
  deriving DecidableEq, Repr

/-- R136, with the bad record's mode, target and stored dump state until step (2) of start-up (DESIGN CHOICE, unsafe, log 9). -/
def Cwc.reset : Cwc where
  setMode := .frost
  effMode := .frost
  target := 200
  demand := false
  minOff := none
  tFresh := ⟨none, false⟩
  tCabin := ⟨none, false⟩
  tOutside := ⟨none, false⟩
  temp := .notFormed
  padDuty := 0
  dump := .startup
  storedClosed := false
  fresh := ⟨none, false, false, []⟩
  grey := ⟨none, false, false, []⟩
  freshLowArmed := true
  faultArmed := true
  greyFullArmed := true
  freeze := false

/-! ## Ports (09) -/

/-- Notice kinds (section 9.9), in the order of their numbering from 1. -/
inductive NoticeKind where
  | loadGranted | loadRestored | loadShed | loadGated | loadExpired | loadTaken
  | motionDone | motionFault | motionHalted
  | lockHeld | lockSelf | lockFault
  | windRetract | frostDump | tankLow | greyFull
  | sensorFault | referenceFault | lowVoltage | chargeSync | supplyChanged
  | vehicleStale | climateChanged
  deriving DecidableEq, Repr

/-- A notice (R166). The value is 16 bits, read as signed for FROST_DUMP only. -/
structure Notice where
  kind : NoticeKind
  subject : Byte
  value : Word16
  stamp : Word16
  deriving DecidableEq, Repr

/-- The receive state with what the frame in progress has given (R157). `crc` is the running CRC. -/
inductive Receive where
  | hunt
  | length
  | kind (len : Byte) (crc : Byte)
  | tag (len kind : Byte) (crc : Byte)
  | body (len kind tag : Byte) (got : List Byte) (crc : Byte)
  | check (kind tag : Byte) (got : List Byte) (crc : Byte)
  deriving DecidableEq, Repr

/-- A port (R156). `answer` is `none` in IDLE and the answer frame being sent in ANSWERING (R160). -/
structure PortState where
  receive : Receive
  answer : Option (List Byte)
  queue : List Notice
  overflow : Bool
  deriving DecidableEq, Repr

/-- R156. -/
def PortState.reset : PortState where
  receive := .hunt
  answer := none
  queue := []
  overflow := false

/-! ## STO (10) -/

/-- What the non-volatile memory holds: the bytes of the last write, or the spoiled record that an interrupted write leaves, which
fails its CRC (R174). -/
inductive StoredRecord where
  | written (bytes : List Byte)
  | spoiled
  deriving DecidableEq, Repr

/-- Where start-up stands (R175): reading the record (step 2), first scan (step 3), READY (step 4). -/
inductive StartPhase where
  | reading | scanning | ready
  deriving DecidableEq, Repr

/-- The reset cause (R175), in the order of its numbering. -/
inductive ResetCause where
  | powerOn | resetn
  deriving DecidableEq, Repr

/-- STO (R170, R173). `writing` is `none` in IDLE and the record's bytes, taken at the start of the write, in WRITING. -/
structure Sto where
  live : Settings
  image : Settings
  imageScenes : Vector (List SceneEntry) 8
  writing : Option (List Byte)
  heldCheckpoint : Bool
  writeCount : Word16
  recordGood : Bool
  stored : StoredRecord
  phase : StartPhase
  cause : ResetCause
  deriving DecidableEq, Repr

/-- R170; the live values and the image are the defaults until step (2) of start-up (DESIGN CHOICE, unsafe, log 9). -/
def Sto.reset (stored : StoredRecord) (cause : ResetCause) : Sto where
  live := .default
  image := .default
  imageScenes := Vector.replicate 8 []
  writing := none
  heldCheckpoint := false
  writeCount := 0
  recordGood := false
  stored := stored
  phase := .reading
  cause := cause

/-! ## The whole block -/

/-- A call of CWC on LDC that waits for the event that made the report to end (R142, R145). -/
inductive InternalCall where
  | fallback | dumpedHold
  deriving DecidableEq, Repr

/-- The state of the block. `calls` and `freeIndex` are the model's own (log 15, log 12); `pending` holds the commands that wait,
first in, first out. -/
structure State where
  scv : Scv
  chg : Chg
  ldc : Ldc
  out : Out
  mot : Mot
  dlu : Dlu
  cwc : Cwc
  sto : Sto
  panel : PortState
  chassis : PortState
  gateway : PortState
  noticeClock : Word16
  calls : List InternalCall
  freeIndex : Nat
  pending : List Instr
  deriving DecidableEq, Repr

/-- Faults. The spec names no event that stops the block: each fault it names is state. So no command faults, and the type has no
constructor. -/
inductive Fault where
  deriving DecidableEq, Repr

/-- Refusals. -/
inductive Refusal where
  /-- Raised by an arm of `exec` whose command has no meaning yet; safe, since the model stops. No arm raises it. -/
  | notModelled (mnemonic : String)
  deriving DecidableEq, Repr

/-- The state right after a power-on reset, at step (1) of start-up (R175). The non-volatile record of a new part is not given by the
spec: it is spoiled here (DESIGN CHOICE, unsafe, log 8). -/
def State.reset : State where
  scv := .reset
  chg := .reset
  ldc := .reset
  out := .reset
  mot := .reset
  dlu := .reset
  cwc := .reset
  sto := .reset .spoiled .powerOn
  panel := .reset
  chassis := .reset
  gateway := .reset
  noticeClock := 0
  calls := []
  freeIndex := 0
  pending := []

end Sys2Proof.Machine
end

