-- ==== Sys2Proof/WellFormed.lean ====
section
/-! DEFINITION. Which commands can be given at all: a frame's payload is at most 56 bytes (R157), an unknown kind is none of the twenty-two of the catalogue (R162), and only the records a master may request carry an auto-off timer (R43). -/

namespace Sys2Proof

/-- LEN runs from 0 to 56 (R157). -/
def Frame.wf (f : Frame) : Bool := f.payload.length ≤ 56

/-- The records that masters may request (R42): 0 to 6, 10 and 11. -/
def masterRecord (n : Fin 14) : Bool := n.val ≤ 6 || n.val == 10 || n.val == 11

/-- The kinds of the request catalogue are 1 to 22 (11 section 11.1). -/
def knownKind (k : Byte) : Bool := 1 ≤ k.toNat && k.toNat ≤ 22

/-- The check of one command. -/
def Instr.wf : Instr → Bool
  | .powerOnReset => true
  | .resetn => true
  | .storeReadComplete _ => true
  | .fastTriggerExpiry => true
  | .slowTriggerExpiry => true
  | .fastConversionComplete _ => true
  | .slowConversionComplete _ => true
  | .refchkComplete _ => true
  | .suspectRunLimit => true
  | .minutePush => true
  | .hourPush => true
  | .checkpointRequest _ => true
  | .restWindowOpen => true
  | .restWindowClose => true
  | .fullSync => true
  | .alarmChange _ _ => true
  | .supplyChange _ => true
  | .autoOffExpiry n => masterRecord n
  | .fadeStepExpiry => true
  | .softStartExpiry _ => true
  | .hallPulse _ _ => true
  | .lastPulseTimerExpiry _ => true
  | .overcurrentTrip _ => true
  | .stoppingTimerExpiry _ => true
  | .jogDeadlineExpiry _ => true
  | .standbyTimerExpiry _ => true
  | .stopnActive => true
  | .stopnInactive => true
  | .entryOpen => true
  | .entryClose => true
  | .windPulse => true
  | .windWindowEnd => true
  | .calmTimerExpiry => true
  | .stalenessTimerExpiry => true
  | .minimumOffExpiry => true
  | .fallbackRequest => true
  | .pumpHoldCall _ _ => true
  | .frameAbandoned _ _ => true
  | .gapTimerExpiry _ => true
  | .unknownKind k f => !knownKind k && f.wf
  | .answerComplete _ => true
  | .linkReset _ => true
  | .noticeClockTick => true
  | .writeComplete => true
  | .ident f => f.wf
  | .getEnergy f => f.wf
  | .getHistory f => f.wf
  | .setCharge f => f.wf
  | .getLoad f => f.wf
  | .getLoads f => f.wf
  | .setLoad f => f.wf
  | .runScene f => f.wf
  | .setScene f => f.wf
  | .getScene f => f.wf
  | .moveExtend _ _ _ rest => rest.length ≤ 54
  | .moveRetract _ _ _ rest => rest.length ≤ 54
  | .moveGoto _ _ _ rest => rest.length ≤ 54
  | .moveJogOut _ _ _ rest => rest.length ≤ 54
  | .moveJogIn _ _ _ rest => rest.length ≤ 54
  | .moveContinue _ _ _ rest => rest.length ≤ 54
  | .moveStop _ _ _ rest => rest.length ≤ 54
  | .getMotion f => f.wf
  | .driveLockTake _ _ rest => rest.length ≤ 55
  | .driveLockRelease _ _ rest => rest.length ≤ 55
  | .vehicle f => f.wf
  | .setClimate f => f.wf
  | .getClimate f => f.wf
  | .dumpNow _ _ rest => rest.length ≤ 55
  | .dumpClose _ _ rest => rest.length ≤ 55
  | .getTanks f => f.wf
  | .getSetting f => f.wf
  | .putSetting f => f.wf
  | .saveSettings f => f.wf
  | .fetch f => f.wf
  | .uartByteComplete _ _ _ => true
  | .timebaseWrap => true
  | .vehicleAgeTick => true

/-- The request frame that a command stands for, with its KIND (11 section 11.1); none for a command that is no frame. -/
def Instr.frame : Instr → Option (Byte × Frame)
  | .powerOnReset => none
  | .resetn => none
  | .storeReadComplete _ => none
  | .fastTriggerExpiry => none
  | .slowTriggerExpiry => none
  | .fastConversionComplete _ => none
  | .slowConversionComplete _ => none
  | .refchkComplete _ => none
  | .suspectRunLimit => none
  | .minutePush => none
  | .hourPush => none
  | .checkpointRequest _ => none
  | .restWindowOpen => none
  | .restWindowClose => none
  | .fullSync => none
  | .alarmChange _ _ => none
  | .supplyChange _ => none
  | .autoOffExpiry _ => none
  | .fadeStepExpiry => none
  | .softStartExpiry _ => none
  | .hallPulse _ _ => none
  | .lastPulseTimerExpiry _ => none
  | .overcurrentTrip _ => none
  | .stoppingTimerExpiry _ => none
  | .jogDeadlineExpiry _ => none
  | .standbyTimerExpiry _ => none
  | .stopnActive => none
  | .stopnInactive => none
  | .entryOpen => none
  | .entryClose => none
  | .windPulse => none
  | .windWindowEnd => none
  | .calmTimerExpiry => none
  | .stalenessTimerExpiry => none
  | .minimumOffExpiry => none
  | .fallbackRequest => none
  | .pumpHoldCall _ _ => none
  | .frameAbandoned _ _ => none
  | .gapTimerExpiry _ => none
  | .unknownKind k f => some (k, f)
  | .answerComplete _ => none
  | .linkReset _ => none
  | .noticeClockTick => none
  | .writeComplete => none
  | .ident f => some (1, f)
  | .getEnergy f => some (2, f)
  | .getHistory f => some (3, f)
  | .setCharge f => some (4, f)
  | .getLoad f => some (5, f)
  | .getLoads f => some (6, f)
  | .setLoad f => some (7, f)
  | .runScene f => some (8, f)
  | .setScene f => some (9, f)
  | .getScene f => some (10, f)
  | .moveExtend p tag axis rest => some (11, ⟨p, tag, axis :: 0 :: rest⟩)
  | .moveRetract p tag axis rest => some (11, ⟨p, tag, axis :: 1 :: rest⟩)
  | .moveGoto p tag axis rest => some (11, ⟨p, tag, axis :: 2 :: rest⟩)
  | .moveJogOut p tag axis rest => some (11, ⟨p, tag, axis :: 3 :: rest⟩)
  | .moveJogIn p tag axis rest => some (11, ⟨p, tag, axis :: 4 :: rest⟩)
  | .moveContinue p tag axis rest => some (11, ⟨p, tag, axis :: 5 :: rest⟩)
  | .moveStop p tag axis rest => some (11, ⟨p, tag, axis :: 6 :: rest⟩)
  | .getMotion f => some (12, f)
  | .driveLockTake p tag rest => some (13, ⟨p, tag, 0 :: rest⟩)
  | .driveLockRelease p tag rest => some (13, ⟨p, tag, 1 :: rest⟩)
  | .vehicle f => some (14, f)
  | .setClimate f => some (15, f)
  | .getClimate f => some (16, f)
  | .dumpNow p tag rest => some (17, ⟨p, tag, 0 :: rest⟩)
  | .dumpClose p tag rest => some (17, ⟨p, tag, 1 :: rest⟩)
  | .getTanks f => some (18, f)
  | .getSetting f => some (19, f)
  | .putSetting f => some (20, f)
  | .saveSettings f => some (21, f)
  | .fetch f => some (22, f)
  | .uartByteComplete _ _ _ => none
  | .timebaseWrap => none
  | .vehicleAgeTick => none

end Sys2Proof
end

