-- ==== Sys2Proof/Machine/Flags.lean ====
section
/-! DEFINITION. The conditions and figures that the spec computes from the state: record kinds and orders, the granted sum, tier conditions, holding reasons, the pending list, capacity, stowed, freeze, attention lines. -/

namespace Sys2Proof.Machine

/-! ## Load records -/

/-- The kind of a load record (R42). -/
inductive LoadKind where
  | dimmed | switched | heater | motor
  deriving DecidableEq, Repr

/-- R42: L0 to L5 are DIMMED, PAD is the HEATER, STEP and AWNING are MOTOR, the rest SWITCHED. -/
def loadKind (n : Fin 14) : LoadKind :=
  if n.val < 6 then .dimmed else if n.val = 8 then .heater else if 12 ≤ n.val then .motor else .switched

/-- The records by number (R42). -/
abbrev outPump : Fin 14 := 6
/-- HEAT. -/
abbrev outHeat : Fin 14 := 7
/-- PAD. -/
abbrev outPad : Fin 14 := 8
/-- DUMP. -/
abbrev outDump : Fin 14 := 9

/-- The load record of an axis (R94). -/
def axisRecord : Axis → Fin 14
  | .step => 12
  | .awning => 13

/-- The axis of a MOTOR record. -/
def recordAxis (n : Fin 14) : Option Axis :=
  if n.val = 12 then some .step else if n.val = 13 then some .awning else none

/-- The records in number order. -/
def allRecords : List (Fin 14) := [0, 1, 2, 3, 4, 5, 6, 7, 8, 9, 10, 11, 12, 13]

/-- The internal records, which belong to MOTION or CLIMATE (R42). -/
def internalRecord (n : Fin 14) : Bool := !masterRecord n

/-- The number of a load state: 0 OFF, 1 PENDING, 2 GRANTED, 3 GATED (11 section 11.4). -/
def loadStateCode : Option Load → Nat
  | none => 0
  | some l => match l.phase with
    | .pending _ => 1
    | .granted _ _ => 2
    | .gated _ => 3

/-- The record is GRANTED. -/
def Load.isGranted (l : Load) : Bool :=
  match l.phase with
  | .granted _ _ => true
  | _ => false

/-- The record is PENDING. -/
def Load.isPending (l : Load) : Bool :=
  match l.phase with
  | .pending _ => true
  | _ => false

/-- The record is GATED. -/
def Load.isGated (l : Load) : Bool :=
  match l.phase with
  | .gated _ => true
  | _ => false

/-- The current that a record counts in G: its counted current while GRANTED (R43, R63). -/
def countedCurrent : Option Load → Nat
  | some l => match l.phase with
    | .granted _ c => c
    | _ => 0
  | none => 0

/-- The load record `n`. -/
def State.load (s : State) (n : Fin 14) : Option Load := s.ldc.loads[n]

/-- Record `n` is GRANTED. -/
def State.granted (s : State) (n : Fin 14) : Bool := (s.load n).any Load.isGranted

/-- Record `n` is GATED. -/
def State.gated (s : State) (n : Fin 14) : Bool := (s.load n).any Load.isGated

/-- The granted sum G (R63). -/
def State.grantedSum (s : State) : Nat := (allRecords.map (fun n => countedCurrent (s.load n))).sum

/-- The age of an order number: the counter's value minus the number, modulo 65,536; a live number that the counter has come round to is
65,536 issues old in every comparison, so that renumbering keeps each (R46, log 50). -/
def orderAge (counter number : Word16) : Nat := (counter - number - 1).toNat + 1

/-- One of three values by tier. -/
def PerTier.of (p : PerTier) : Tier → Bool
  | .essential => p.essential
  | .comfort => p.comfort
  | .leisure => p.leisure

/-- The condition of a tier (R70). -/
inductive TierCondition where
  | shut | limited | isOpen
  deriving DecidableEq, Repr

/-- R70. -/
def tierCondition (d : Ldc) (t : Tier) : TierCondition :=
  if d.critical then .shut
  else if (d.lvd && t != .essential) || !d.gateOpen.of t then .limited
  else .isOpen

/-- A DIMMED record whose dim cap is above 0: neither VOLTAGE nor ENERGY holds it (R71). -/
def State.capApplies (s : State) (n : Fin 14) : Bool := loadKind n == .dimmed && 0 < s.sto.live.dimCapOf n

/-- The holding reason of record `n` at effective tier `t`, or none (R71). -/
def State.holdingReason (s : State) (n : Fin 14) (t : Tier) : Option GateReason :=
  if s.ldc.critical then some .critical
  else if s.ldc.lvd && t != .essential && !s.capApplies n then some .voltage
  else if !s.ldc.gateOpen.of t && !s.capApplies n then some .energy
  else if n == outPump && s.ldc.dumpedHold then some .dumped
  else if n == outPump && s.ldc.dryRunHold then some .dryRun
  else none

/-- A DIMMED record with a cap above 0 in a LIMITED tier is capped (R71). -/
def State.capped (s : State) (n : Fin 14) (t : Tier) : Bool := s.capApplies n && tierCondition s.ldc t == .limited

/-- The drive level that LDC gives OUT for the record while it is GRANTED (R58, R73, R84). -/
def State.driveLevel (s : State) (n : Fin 14) (l : Load) : Nat :=
  if s.capped n l.tier then min l.level (s.sto.live.dimCapOf n) else l.level

/-- The number of a gate reason (R76). -/
def GateReason.code : GateReason → Nat
  | .energy => 1
  | .voltage => 2
  | .critical => 3
  | .dryRun => 4
  | .dumped => 5

/-- The number of an owner (11 section 11.4). -/
def Owner.code : Owner → Nat
  | .panel => 1
  | .gateway => 2
  | .motion => 3
  | .climate => 4

/-- The port that receives an owner's notices (R45). -/
def Owner.port : Owner → Port
  | .gateway => .gateway
  | _ => .panel

/-- The pending list comes before: ESSENTIAL before COMFORT before LEISURE, and within one tier the oldest stamp first (R55). -/
def listedBefore (counter : Word16) (a b : Load) : Bool :=
  a.tier.code < b.tier.code || (a.tier == b.tier && orderAge counter b.stamp ≤ orderAge counter a.stamp)

/-- Put a record at its place in the pending list. -/
def insertPending (counter : Word16) (n : Fin 14 × Load) : List (Fin 14 × Load) → List (Fin 14 × Load)
  | [] => [n]
  | m :: rest => if listedBefore counter n.2 m.2 then n :: m :: rest else m :: insertPending counter n rest

/-- Record `n` with its load, if it is PENDING. -/
def State.pendingEntry (s : State) (n : Fin 14) : Option (Fin 14 × Load) :=
  match s.load n with
  | some l => if l.isPending then some (n, l) else none
  | none => none

/-- The pending list (R55): exactly the PENDING records, in the order of its two keys. -/
def State.pendingList (s : State) : List (Fin 14) :=
  ((allRecords.filterMap s.pendingEntry).foldr (insertPending s.ldc.stampCounter) []).map (·.1)

/-- A record's position in the pending list, counted from 1; 0 for a record not in it (R55). -/
def State.pendingPosition (s : State) (n : Fin 14) : Nat :=
  if s.pendingList.contains n then s.pendingList.idxOf n + 1 else 0

/-- The GRANTED records of a tier with their grant orders. -/
def State.grantsOf (s : State) (t : Tier) : List (Fin 14 × Word16) :=
  allRecords.filterMap (fun n => match s.load n with
    | some l => match l.phase with
      | .granted o _ => if l.tier = t then some (n, o) else none
      | _ => none
    | none => none)

/-- Put a grant at its place, newest (smallest age) first. -/
def insertNewest (counter : Word16) (g : Fin 14 × Word16) : List (Fin 14 × Word16) → List (Fin 14 × Word16)
  | [] => [g]
  | h :: rest => if orderAge counter g.2 ≤ orderAge counter h.2 then g :: h :: rest else h :: insertNewest counter g rest

/-- The GRANTED records of a tier, newest grant first (R57, R65). -/
def State.newestGrants (s : State) (t : Tier) : List (Fin 14) :=
  ((s.grantsOf t).foldr (insertNewest s.ldc.grantCounter) []).map (·.1)

/-- The budget that the three terms give (R63). -/
def State.budgetNow (s : State) : Nat :=
  s.sto.live.batteryLimit + (if s.ldc.supply then s.sto.live.shoreAllowance else 0)
    + (if s.ldc.engine then s.sto.live.alternatorAllowance else 0)

/-! ## Charge -/

/-- The temperature that the factor uses: T, or 25.0 °C while there is none (R23). -/
def State.tempForFactor (s : State) : Int := s.chg.temp.getD 250

/-- The factor in use k(T) (R23). -/
def State.factorInUse (s : State) : Nat := factorAt s.sto.live.factors s.tempForFactor

/-- The usable capacity Cu, in mAh (R24). -/
def State.usable (s : State) : Nat := s.sto.live.cap * s.factorInUse / 256

/-- The state of charge that C gives (R24). -/
def State.socNow (s : State) : Nat := min 1000 (s.chg.content * 1000 / s.usable)

/-- The alarm level (R38). -/
def Chg.alarmLevel (c : Chg) : Nat := if c.critical then 2 else if c.lvd then 1 else 0

/-- The value of a result slot, or none in NO_VALUE. -/
def State.slotValue (s : State) (ch : Fin 11) : Option Int := s.scv.slots[ch].reading.map (·.2)

/-! ## Motion, lock, climate -/

/-- The record of an axis. -/
def State.axis (s : State) : Axis → AxisRec
  | .step => s.mot.step
  | .awning => s.mot.awning

/-- The bridge of an axis. -/
def State.bridge (s : State) : Axis → Bridge
  | .step => s.out.step
  | .awning => s.out.awning

/-- Stowed: status KNOWN and position 8 or less (R94). -/
def AxisRec.stowed (r : AxisRec) : Bool := r.known && r.position ≤ 8

/-- Stowed and IDLE (R129). -/
def AxisRec.stowedIdle (r : AxisRec) : Bool := r.stowed && r.state == .idle

/-- The current segment of a plan. -/
def Plan.current (p : Plan) : Segment := if p.onSecond then p.second.getD p.first else p.first

/-- The segment that follows the current one, if any. -/
def Plan.following (p : Plan) : Option Segment := if p.onSecond then none else p.second

/-- A plan runs from its taking until IDLE, STANDBY or FAULT (R96). -/
def AxisRec.runsPlan (r : AxisRec) : Bool := r.state != .idle && r.state != .standby && r.state != .fault

/-- The axis runs a plan of the source. -/
def AxisRec.runsSource (r : AxisRec) (src : Source) : Bool := r.runsPlan && r.source == some src

/-- The axis is stopping toward FAULT: from a fault, the pinch included, until FAULT is entered (R108, R109). -/
def AxisRec.towardFault (r : AxisRec) : Bool :=
  (r.state == .stopping && (r.continuation == some .fault || r.continuation == some .backOff))
    || (r.state == .running && r.backOff.isSome)

/-- The current segment of the axis is OUTWARD. -/
def AxisRec.outwardSegment (r : AxisRec) : Bool := r.plan.any (fun p => p.current.dir == .outward)

/-- The axis drives outward: RUNNING in an OUTWARD segment or in a back-off (R120). -/
def AxisRec.drivesOutward (r : AxisRec) : Bool := r.state == .running && (r.backOff.isSome || r.outwardSegment)

/-- The freeze condition (R126). -/
def Dlu.frozen (d : Dlu) : Bool := d.lock != .free || d.moving

/-- Ignition as MOT takes it: ON while the stale mark is set (R122). -/
def Dlu.ignitionOn (d : Dlu) : Bool := d.stale || d.ignition

/-- The lock-plan mark of an axis (R127). -/
def Dlu.planMark (d : Dlu) : Axis → Bool
  | .step => d.stepMark
  | .awning => d.awningMark

/-- The effective target of a heating mode, none in OFF (R138). -/
def Cwc.effectiveTarget (c : Cwc) : Option Int :=
  match c.effMode with
  | .off => none
  | .frost => some 50
  | .eco => some (c.target - 30)
  | .comfort => some c.target
  | .fallback => some 50

/-- A temperature channel is good when it holds a value and is not degraded (R135). -/
def HeldTemp.good (h : HeldTemp) : Bool := h.value.isSome && !h.degraded

/-- The value of the temperature in use, if there is one (R135). -/
def TempInUse.value : TempInUse → Option Int
  | .fresh t => some t
  | .outside t => some t
  | _ => none

/-- The temperature in use is at or below a threshold; with no source it is at or below every one (R135). -/
def TempInUse.atOrBelow (t : TempInUse) (threshold : Int) : Bool :=
  match t.value with
  | some v => v ≤ threshold
  | none => true

/-! ## Ports -/

/-- The state of a port. -/
def State.port (s : State) : Port → PortState
  | .panel => s.panel
  | .chassis => s.chassis
  | .gateway => s.gateway

/-- The attention line is held low exactly when the queue is not empty or the overflow mark is set (R167, R168). -/
def PortState.attentionLow (p : PortState) : Bool := !p.queue.isEmpty || p.overflow

/-- The transceiver's direction output: transmit while the port is ANSWERING (R160, log 27). -/
def PortState.transmitting (p : PortState) : Bool := p.answer.isSome

/-- The gap timer runs exactly while a frame is in progress (R158). -/
def PortState.gapTimer (p : PortState) : Bool := p.receive != .hunt

/-- The part is READY (R177). -/
def State.isReady (s : State) : Bool := s.sto.phase == .ready

/-- A gate-drive output is on while its compare value is greater than the timebase (R81). -/
def State.gateOn (s : State) (g : Fin 16) : Bool := s.out.timebase < s.out.compare[g]

end Sys2Proof.Machine
end

