-- ==== Sys2Proof/Machine/Ops.lean ====
section
/-! DEFINITION. The named operations over the state that every meaning is built from: the fields of an axis, a port, a load record; raising a notice (R166, R167); the gate-drive outputs and bridges of OUT (R82 to R91). A block takes no exception, so there is no entry or return here. -/

namespace Sys2Proof.Machine

/-! ## Parts of the state -/

/-- Replace the state of a port. -/
def State.setPort (s : State) (p : Port) (q : PortState) : State :=
  match p with
  | .panel => { s with panel := q }
  | .chassis => { s with chassis := q }
  | .gateway => { s with gateway := q }

/-- Replace the record of an axis. -/
def State.setAxis (s : State) (a : Axis) (r : AxisRec) : State :=
  match a with
  | .step => { s with mot := { s.mot with step := r } }
  | .awning => { s with mot := { s.mot with awning := r } }

/-- Replace the bridge of an axis. -/
def State.setBridge (s : State) (a : Axis) (b : Bridge) : State :=
  match a with
  | .step => { s with out := { s.out with step := b } }
  | .awning => { s with out := { s.out with awning := b } }

/-- Replace a load record. -/
def State.setLoad (s : State) (n : Fin 14) (l : Option Load) : State :=
  { s with ldc := { s.ldc with loads := s.ldc.loads.set n l } }

/-- Replace the live settings. -/
def State.setLive (s : State) (st : Settings) : State := { s with sto := { s.sto with live := st } }

/-! ## Notices -/

/-- The number of a notice kind (section 9.9). -/
def NoticeKind.code : NoticeKind → Nat
  | .loadGranted => 1
  | .loadRestored => 2
  | .loadShed => 3
  | .loadGated => 4
  | .loadExpired => 5
  | .loadTaken => 6
  | .motionDone => 7
  | .motionFault => 8
  | .motionHalted => 9
  | .lockHeld => 10
  | .lockSelf => 11
  | .lockFault => 12
  | .windRetract => 13
  | .frostDump => 14
  | .tankLow => 15
  | .greyFull => 16
  | .sensorFault => 17
  | .referenceFault => 18
  | .lowVoltage => 19
  | .chargeSync => 20
  | .supplyChanged => 21
  | .vehicleStale => 22
  | .climateChanged => 23

/-- A notice joins the queue as its newest entry; at a queue of eight it is dropped and the overflow mark is set (R167). -/
def PortState.push (p : PortState) (q : Notice) : PortState :=
  if p.queue.length < 8 then { p with queue := p.queue ++ [q] } else { p with overflow := true }

/-- A notice reaches one port. -/
def State.deliver (q : Notice) (s : State) (p : Port) : State := s.setPort p ((s.port p).push q)

/-- A notice with the clock as it stands, one copy for each named port (R166). -/
def raise (kind : NoticeKind) (subject : Nat) (value : Int) (ports : List Port) (s : State) : State :=
  ports.foldl (State.deliver ⟨kind, byteOf subject, BitVec.ofInt 16 value, s.noticeClock⟩) s

/-- All ports. -/
def allPorts : List Port := [.panel, .chassis, .gateway]

/-- A load notice goes to the owner's port (R45). -/
def raiseLoad (kind : NoticeKind) (n : Fin 14) (value : Int) (owner : Owner) (s : State) : State :=
  raise kind n.val value [owner.port] s

/-! ## OUT: single outputs -/

/-- A compare value of 0 is loaded at once; one above 0 waits for the next wrap (R82). -/
def setCompare (g : Fin 16) (v : Nat) (s : State) : State :=
  if v = 0 then
    { s with out := { s.out with compare := s.out.compare.set g 0, waiting := s.out.waiting.set g none } }
  else { s with out := { s.out with waiting := s.out.waiting.set g (some v) } }

/-- The gate-drive output of a single output's record (R42). -/
def recordGate (n : Fin 14) : Fin 16 := n.castLE (by decide)

/-- The output level of a single output is its compare value (R83). -/
def setLevel (n : Fin 14) (v : Nat) (s : State) : State :=
  setCompare (recordGate n) v { s with out := { s.out with level := s.out.level.set n v } }

/-- A new target. SWITCHED and HEATER outputs take it as their level; a DIMMED output fades toward it, or takes it at once at fade
rate 255 (R84, R85, R87). -/
def setTarget (n : Fin 14) (v : Nat) (s : State) : State :=
  let s1 := { s with out := { s.out with target := s.out.target.set n v } }
  if loadKind n = .dimmed ∧ s.sto.live.fadeRateOf n ≠ 255 then s1 else setLevel n v s1

/-- One fade step of a level toward a target at a rate (R86). -/
def fadeToward (rate level target : Nat) : Nat :=
  if level < target then min target (level + rate) else max target (level - rate)

/-! ## OUT: bridges -/

/-- Input A of a bridge, outward (section 5.4). -/
def gateA : Axis → Fin 16
  | .step => 12
  | .awning => 14

/-- Input B of a bridge, inward (section 5.4). -/
def gateB : Axis → Fin 16
  | .step => 13
  | .awning => 15

/-- A bridge takes an effective state: inputs that go off first, then those that come on; OUT and IN begin a soft start at 96, the
others end it (R88 to R90). -/
def enterBridge (a : Axis) (e : BridgeState) (s : State) : State :=
  let b := s.bridge a
  match e with
  | .coast =>
    setCompare (gateB a) 0 (setCompare (gateA a) 0 (s.setBridge a { b with effective := e, duty := 0, softStart := false }))
  | .driveOut =>
    setCompare (gateA a) 96 (setCompare (gateB a) 0 (s.setBridge a { b with effective := e, duty := 96, softStart := true }))
  | .driveIn =>
    setCompare (gateB a) 96 (setCompare (gateA a) 0 (s.setBridge a { b with effective := e, duty := 96, softStart := true }))
  | .brake =>
    setCompare (gateB a) 255 (setCompare (gateA a) 255 (s.setBridge a { b with effective := e, duty := 0, softStart := false }))

/-- The effective state is the requested state while the axis's record is GRANTED, and COAST otherwise (R88, R91). -/
def applyBridge (a : Axis) (s : State) : State :=
  let b := s.bridge a
  let e := if s.granted (axisRecord a) then b.requested else .coast
  if e = b.effective then s else enterBridge a e s

/-- MOT sets the requested state of a bridge (R88). -/
def requestBridge (a : Axis) (r : BridgeState) (s : State) : State :=
  applyBridge a (s.setBridge a { s.bridge a with requested := r })

/-- OUT takes the grant of record `n` at a drive level (R85, R91). -/
def outGrant (n : Fin 14) (level : Nat) (s : State) : State :=
  match recordAxis n with
  | some a => applyBridge a s
  | none => setTarget n level s

/-- OUT takes a level change; the level already given changes nothing (R85, R54). -/
def outChange (n : Fin 14) (level : Nat) (s : State) : State :=
  match recordAxis n with
  | some _ => s
  | none => if s.out.target[n] = level then s else setTarget n level s

/-- OUT takes the loss of a grant: target and level 0 at once, or the bridge to COAST (R85, R91). -/
def outLoss (n : Fin 14) (s : State) : State :=
  match recordAxis n with
  | some a => applyBridge a s
  | none => setLevel n 0 { s with out := { s.out with target := s.out.target.set n 0 } }

/-! ## Load records -/

/-- The record goes to OFF and, if it was GRANTED, OUT drops its drive (R48). No admission runs here. -/
def dropLoad (n : Fin 14) (s : State) : State :=
  if s.granted n then outLoss n (s.setLoad n none) else s.setLoad n none

/-- The drive level of a GRANTED record is formed again (R73, R78). -/
def refreshDrive (n : Fin 14) (s : State) : State :=
  match s.load n with
  | some l => if l.isGranted then outChange n (s.driveLevel n l) s else s
  | none => s

/-- Put an order number at its place, oldest first (R46). -/
def insertOldest (counter : Word16) (g : Fin 14 × Word16) : List (Fin 14 × Word16) → List (Fin 14 × Word16)
  | [] => [g]
  | h :: rest =>
    if orderAge counter h.2 ≤ orderAge counter g.2 then g :: h :: rest else h :: insertOldest counter g rest

/-- The live records with their stamps (R46). -/
def State.stamps (s : State) : List (Fin 14 × Word16) :=
  allRecords.filterMap (fun n => (s.load n).map (fun l => (n, l.stamp)))

/-- The GRANTED records with their grant orders (R46). -/
def State.orders (s : State) : List (Fin 14 × Word16) :=
  allRecords.filterMap (fun n => match s.load n with
    | some l => match l.phase with
      | .granted o _ => some (n, o)
      | _ => none
    | none => none)

/-- Give the records of a list the stamps `k`, `k + 1`, … -/
def restamp : List (Fin 14 × Word16) → Nat → State → State
  | [], k, s => { s with ldc := { s.ldc with stampCounter := BitVec.ofNat 16 k } }
  | g :: rest, k, s => restamp rest (k + 1)
      (s.setLoad g.1 ((s.load g.1).map (fun l => { l with stamp := BitVec.ofNat 16 k })))

/-- A grant order replaced. -/
def Load.reorder (l : Load) (o : Word16) : Load :=
  match l.phase with
  | .granted _ c => { l with phase := .granted o c }
  | _ => l

/-- Give the records of a list the grant orders `k`, `k + 1`, … -/
def regrant : List (Fin 14 × Word16) → Nat → State → State
  | [], k, s => { s with ldc := { s.ldc with grantCounter := BitVec.ofNat 16 k } }
  | g :: rest, k, s => regrant rest (k + 1)
      (s.setLoad g.1 ((s.load g.1).map (fun l => l.reorder (BitVec.ofNat 16 k))))

/-- Before an issue: renumber the stamps, oldest first, if the counter's value is a live stamp (R46). -/
def settleStamps (s : State) : State :=
  if s.stamps.any (fun g => g.2 == s.ldc.stampCounter) then
    restamp (s.stamps.foldr (insertOldest s.ldc.stampCounter) []) 0 s
  else s

/-- Before an issue: renumber the grant orders, oldest first, if the counter's value is a live grant order (R46). -/
def settleOrders (s : State) : State :=
  if s.orders.any (fun g => g.2 == s.ldc.grantCounter) then
    regrant (s.orders.foldr (insertOldest s.ldc.grantCounter) []) 0 s
  else s

/-- The stamp counter rises by 1 (R46). -/
def bumpStamp (s : State) : State := { s with ldc := { s.ldc with stampCounter := s.ldc.stampCounter + 1 } }

/-- The grant-order counter rises by 1 (R46). -/
def bumpGrant (s : State) : State := { s with ldc := { s.ldc with grantCounter := s.ldc.grantCounter + 1 } }

end Sys2Proof.Machine
end

