-- ==== Sys2Proof/Machine/Reports.lean ====
section
/-! DEFINITION. What LDC's reports on the internal records do at once, within the event at LDC: CWC's reactions (R142, R145, R147, R148) and the noting of a report for MOT (R54; MOT acts as soon as LDC's event has ended, log 14). -/

namespace Sys2Proof.Machine

/-- The cold cause of R147: the temperature in use is at or below the dump threshold, or there is none, while PAD is not GRANTED. -/
def State.coldUnheated (s : State) : Bool := s.cwc.temp.atOrBelow s.sto.live.dumpThreshold && !s.granted outPad

/-- FROST_DUMP to all ports: the cause as subject, the temperature in use or -32,768 as value (R147). -/
def raiseFrostDump (subject : Nat) (s : State) : State :=
  raise .frostDump subject (s.cwc.temp.value.getD (-32768)) allPorts s

/-- A call of CWC that waits until the event that made the report has ended (R142, R145). -/
def pushCall (c : InternalCall) (s : State) : State := { s with calls := s.calls ++ [c] }

/-- Entry to DUMPED while acting on a report of LDC (R145, R147): DUMP is released within LDC's event, whose own admission is the one
that the release calls for, and the dumped hold reaches LDC as a call of its own. -/
def dumpInReport (subject : Nat) (s : State) : State :=
  raiseFrostDump subject
    (pushCall .dumpedHold (dropLoad outDump { s with cwc := { s.cwc with dump := .dumped } }))

/-- The report that PAD leaves GRANTED is judged by the cold cause (R147, R148). -/
def padLost (s : State) : State :=
  if (s.cwc.dump = .closed ∨ s.cwc.dump = .closing) ∧ s.coldUnheated then dumpInReport 1 s else s

/-- The report that DUMP leaves GRANTED dumps in CLOSED; a gating in CLOSING leaves CLOSING (R147, R148). -/
def dumpLost (s : State) : State := if s.cwc.dump = .closed then dumpInReport 2 s else s

/-- The grant of DUMP makes CLOSING CLOSED (R148). -/
def dumpGranted (s : State) : State :=
  if s.cwc.dump = .closing then { s with cwc := { s.cwc with dump := .closed } } else s

/-- HEAT becomes GATED: in ECO or COMFORT the effective mode becomes FALLBACK and the fallback call is made (R142). -/
def heatGated (s : State) : State :=
  if s.cwc.effMode = .eco ∨ s.cwc.effMode = .comfort then
    pushCall .fallback { s with cwc := { s.cwc with effMode := .fallback } }
  else s

/-- A report for MOT is noted (R54). -/
def pushReport (a : Axis) (granted : Bool) (s : State) : State :=
  { s with mot := { s.mot with reports := s.mot.reports ++ [⟨a, granted⟩] } }

/-- Who is told that record `n` was shed (R57, R65). -/
def reportShed (n : Fin 14) (s : State) : State :=
  match recordAxis n with
  | some a => pushReport a false s
  | none => if n = outPad then padLost s else if n = outDump then dumpLost s else s

/-- Who is told that record `n` was gated (R76). -/
def reportGated (n : Fin 14) (s : State) : State :=
  if n = outHeat then heatGated s else reportShed n s

/-- Who is told that record `n` was granted or restored (R58, R77). -/
def reportGranted (n : Fin 14) (s : State) : State :=
  match recordAxis n with
  | some a => pushReport a true s
  | none => if n = outDump then dumpGranted s else s

end Sys2Proof.Machine
end

