-- ==== Sys2Proof/Machine/Loads.lean ====
section
/-! DEFINITION. The Load Coordinator: grants, sheds and gatings, the admission walk (R55 to R58), requests (R50, R53), releases (R48, R54), the budget (R63 to R66) and the gate events (R67 to R80). These are the events at LDC alone; Calls.lean makes them with what follows them. -/

namespace Sys2Proof.Machine

/-! ## Grants, sheds, gatings -/

/-- A record leaves GRANTED for another phase; OUT drops its drive at once (R57, R65, R76). -/
def loseGrant (n : Fin 14) (l : Load) (phase : Phase) (s : State) : State :=
  outLoss n (s.setLoad n (some { l with phase := phase }))

/-- A shed: the record returns to the pending list at its original stamp, its restoring mark clear; LOAD_SHED; the report (R57, R65). -/
def shed (n : Fin 14) (s : State) : State :=
  match s.load n with
  | some l => reportShed n (raiseLoad .loadShed n 0 l.owner (loseGrant n l (.pending false) s))
  | none => s

/-- A PENDING or GRANTED record becomes GATED with a reason, without a notice (R76, R56). -/
def gateQuietly (n : Fin 14) (l : Load) (r : GateReason) (s : State) : State :=
  if l.isGranted then loseGrant n l (.gated r) s else s.setLoad n (some { l with phase := .gated r })

/-- A record judged held becomes GATED: LOAD_GATED and the report (R76). -/
def gateRecord (n : Fin 14) (l : Load) (r : GateReason) (s : State) : State :=
  reportGated n (raiseLoad .loadGated n r.code l.owner (gateQuietly n l r s))

/-- The notice of a grant outside the record's own admission (R58). -/
def grantNotice (restoring : Bool) : NoticeKind := if restoring then .loadRestored else .loadGranted

/-- A grant (R58): the next grant order, the declared current counted, the drive to OUT; outside the admission that took the record's own
request (`own`) also the notice and the report. -/
def grant (own : Option (Fin 14)) (n : Fin 14) (s : State) : State :=
  match s.load n with
  | some l =>
    match l.phase with
    | .pending restoring =>
      let s1 := settleOrders s
      let level := s1.driveLevel n l
      let s2 := bumpGrant (s1.setLoad n
        (some { l with phase := .granted s1.ldc.grantCounter s1.sto.live.declared[n] }))
      let s3 := outGrant n level s2
      if own = some n then s3 else reportGranted n (raiseLoad (grantNotice restoring) n level l.owner s3)
    | _ => s
  | none => s

/-! ## Admission (R55 to R58) -/

/-- The record fits: G plus its declared current is no more than B (R57). -/
def State.fits (s : State) (n : Fin 14) : Bool := s.grantedSum + s.sto.live.declared[n] ≤ s.ldc.budget

/-- Shed the records of a list one at a time until record `n` fits (R57). -/
def shedUntilFits (n : Fin 14) : List (Fin 14) → State → State
  | [], s => s
  | m :: rest, s => if s.fits n then s else shedUntilFits n rest (shed m s)

/-- The records that pre-emption may shed, in its order (R57). -/
def State.preemptable (s : State) : List (Fin 14) := s.newestGrants .leisure ++ s.newestGrants .comfort

/-- What shedding all of them would free. -/
def State.preemptableSum (s : State) : Nat := (s.preemptable.map (fun n => countedCurrent (s.load n))).sum

/-- Pre-emption for an ESSENTIAL record that does not fit (R57). -/
def preempt (own : Option (Fin 14)) (n : Fin 14) (s : State) : State :=
  if s.grantedSum + s.sto.live.declared[n] ≤ s.ldc.budget + s.preemptableSum then
    grant own n (shedUntilFits n s.preemptable s)
  else s

/-- One record of the walk (R57). -/
def walkOne (own : Option (Fin 14)) (s : State) (n : Fin 14) : State :=
  match s.load n with
  | some l =>
    if l.isPending then
      if s.fits n then grant own n s
      else if l.tier = .essential then preempt own n s
      else s
    else s
  | none => s

/-- Admission: the walk over the pending list as it stands at its start, so that a record shed in the walk is passed over (R57). `own` is the
record whose request this admission took. -/
def walk (own : Option (Fin 14)) (s : State) : State := s.pendingList.foldl (walkOne own) s

/-! ## Requests and releases -/

/-- A request that takes a fresh stamp and enters admission as a new request: the gate test, then the walk (R50, R56, R72). -/
def requestFresh (n : Fin 14) (owner : Owner) (level : Nat) (tier : Tier) (autoOff : Option Nat) (s : State) : State :=
  let s1 := settleStamps s
  let l : Load := ⟨owner, level, tier, s1.ldc.stampCounter, autoOff, .pending false⟩
  let s2 := bumpStamp s1
  match s2.holdingReason n tier with
  | some r => walk (some n) (s2.setLoad n (some { l with phase := .gated r }))
  | none => walk (some n) (s2.setLoad n (some l))

/-- A request on a PENDING or GRANTED record: stamp, place and grant are kept; a changed tier is judged, without a notice (R50, R53, R56). -/
def requestKeeping (n : Fin 14) (old l : Load) (s : State) : State :=
  let s1 := s.setLoad n (some l)
  if l.tier = old.tier then walk (some n) (refreshDrive n s1)
  else match s1.holdingReason n l.tier with
    | some r => walk (some n) (gateQuietly n l r s1)
    | none => walk (some n) (refreshDrive n s1)

/-- A request with a level above 0 is taken (R50 for a master, R53 for MOTION and CLIMATE). -/
def requestLoad (n : Fin 14) (owner : Owner) (level : Nat) (tier : Tier) (autoOff : Option Nat) (s : State) : State :=
  match s.load n with
  | none => requestFresh n owner level tier autoOff s
  | some old =>
    match old.phase with
    | .gated _ => requestFresh n owner level tier autoOff s
    | _ => requestKeeping n old { old with owner := owner, level := level, tier := tier, autoOff := autoOff } s

/-- A record set OFF, and admission (R48, R54). On a record already OFF nothing happens, no admission either: R48 says that it changes nothing,
R55 and the Note of R57 that any taken SET_LOAD runs admission (log 42). -/
def release (n : Fin 14) (s : State) : State :=
  match s.load n with
  | none => s
  | some _ => walk none (dropLoad n s)

/-- CLIMATE's level change on PAD (R54): the requested level is replaced, and a GRANTED pad takes the duty without admission. -/
def changePadLevel (duty : Nat) (s : State) : State :=
  match s.load outPad with
  | none => s
  | some l => refreshDrive outPad (s.setLoad outPad (some { l with level := duty }))

/-! ## Gate events (R75) -/

/-- A GATED record judged not held is restored: PENDING with the restoring mark, at its original stamp (R77). -/
def restore (n : Fin 14) (l : Load) (s : State) : State := s.setLoad n (some { l with phase := .pending true })

/-- The judgement of one record and the change it calls for (R71, R75 step (3), R76 to R78, R73). -/
def judgeOne (s : State) (n : Fin 14) : State :=
  match s.load n with
  | none => s
  | some l =>
    match s.holdingReason n l.tier, l.phase with
    | some r, .gated r' =>
      if r = r' then s else raiseLoad .loadGated n r.code l.owner (s.setLoad n (some { l with phase := .gated r }))
    | some r, _ => gateRecord n l r s
    | none, .gated _ => restore n l s
    | none, .granted _ _ => refreshDrive n s
    | none, .pending _ => s

/-- The states of the records, to see whether any changed (R75 step (4)). -/
def State.loadStates (s : State) : List Nat := allRecords.map (fun n => loadStateCode (s.load n))

/-- The three tier conditions (R70). -/
def tierConditions (d : Ldc) : List TierCondition :=
  [tierCondition d .essential, tierCondition d .comfort, tierCondition d .leisure]

/-- An event at LDC that can change the holding reasons, as a whole (R75): the change itself, the judgement of every record in number order,
and one admission if a record changed state or a tier condition changed. -/
def gateEvent (change : State → State) (s : State) : State :=
  let s1 := change s
  let s2 := allRecords.foldl judgeOne s1
  if s2.loadStates ≠ s1.loadStates ∨ tierConditions s1.ldc ≠ tierConditions s.ldc then walk none s2 else s2

/-- An energy gate judged at a SoC: OPEN closes below the floor, CLOSED opens at the floor + 20 (R68). -/
def judgeGate (floor soc : Nat) (isOpen : Bool) : Bool := if isOpen then decide (floor ≤ soc) else decide (floor + 20 ≤ soc)

/-- The three energy gates judged with the SoC in force; without one they keep their state (R68). -/
def judgeGates (s : State) : State :=
  match s.ldc.soc with
  | none => s
  | some soc =>
    let g := s.ldc.gateOpen
    { s with ldc := { s.ldc with gateOpen :=
      { essential := judgeGate s.sto.live.floorEssential soc g.essential
        comfort := judgeGate s.sto.live.floorComfort soc g.comfort
        leisure := judgeGate s.sto.live.floorLeisure soc g.leisure } } }

/-- The value of a pump hold. -/
def Ldc.hold (d : Ldc) : PumpHold → Bool
  | .dryRun => d.dryRunHold
  | .dumped => d.dumpedHold

/-- A pump hold replaced. -/
def Ldc.setHold (d : Ldc) (h : PumpHold) (v : Bool) : Ldc :=
  match h with
  | .dryRun => { d with dryRunHold := v }
  | .dumped => { d with dumpedHold := v }

/-! ## The budget (R63 to R66) -/

/-- The record that a budget drop sheds next (R65). -/
def State.nextShed (s : State) : Option (Fin 14) :=
  (s.newestGrants .leisure ++ s.newestGrants .comfort ++ s.newestGrants .essential).head?

/-- Shed until G is at most B (R65), at most `k` records. -/
def shedToBudget : Nat → State → State
  | 0, s => s
  | k + 1, s =>
    if s.grantedSum ≤ s.ldc.budget then s
    else match s.nextShed with
      | some n => shedToBudget k (shed n s)
      | none => s

/-- B is recomputed and compared with the B it replaces (R64); fourteen sheds end every excess (R65). -/
def recomputeBudget (s : State) : State :=
  let s1 := { s with ldc := { s.ldc with budget := s.budgetNow } }
  if s.ldc.budget < s1.ldc.budget then walk none s1
  else if s1.ldc.budget < s.ldc.budget ∧ s1.ldc.budget < s1.grantedSum then walk none (shedToBudget 14 s1)
  else s1

end Sys2Proof.Machine
end

