-- ==== Sys2Proof/Machine/Motion.lean ====
section
/-! DEFINITION. The Motion Controller (06): plans, the arbiter of the motor sense, RUNNING, pulses, STOPPING, IDLE and FAULT, loss of grant, jogs, entrance automation, wind, and DLU's handling of the end of a lock plan (R130). -/

namespace Sys2Proof.Machine

/-! ## Small parts -/

/-- The axis record changed by a function. -/
def State.mapAxis (s : State) (a : Axis) (f : AxisRec → AxisRec) : State := s.setAxis a (f (s.axis a))

/-- The motor sense given to an axis, or set free (R100). -/
def setSense (o : Option Axis) (s : State) : State := { s with mot := { s.mot with sense := o } }

/-- The axis number (R94). -/
def axisCode : Axis → Nat
  | .step => 0
  | .awning => 1

/-- The effective tier of a plan's source (R94). -/
def State.planTier (s : State) (a : Axis) : Option Source → Tier
  | some .wind => .essential
  | some .lock => .essential
  | _ => s.sto.live.tier[axisRecord a]

/-- The ports of a motion notice: the source port and the panel port (R107 step (4)). -/
def sourcePorts : Option Source → List Port
  | some .chassis => [.chassis, .panel]
  | some .gateway => [.gateway, .panel]
  | _ => [.panel]

/-- The number of a motion fault (R108). -/
def MotionFault.code : MotionFault → Nat
  | .obstruction => 1
  | .overcurrent => 2
  | .noPulse => 3
  | .overrun => 4

/-- How a plan ends in IDLE (R107): `ended` is MOTION_DONE value 0, the rest its halts. -/
inductive PlanEnd where
  | ended
  | halted (cause : HaltCause)
  deriving DecidableEq, Repr

/-- The notice and value of a plan's end (R107): a jog ended short is MOTION_DONE value 1. -/
def PlanEnd.notice : PlanEnd → NoticeKind × Nat
  | .ended => (.motionDone, 0)
  | .halted .linkReset => (.motionDone, 1)
  | .halted .stop => (.motionHalted, 1)
  | .halted .stopn => (.motionHalted, 2)
  | .halted .grantLost => (.motionHalted, 3)
  | .halted .wind => (.motionHalted, 4)
  | .halted .lock => (.motionHalted, 5)

/-- A one-segment plan. -/
def Plan.single (g : Segment) : Plan := ⟨g, none, false⟩

/-- A homing plan: the inner end first, then a segment (R98). -/
def Plan.homing (g : Segment) : Plan := ⟨⟨.inward, 0, true⟩, some g, false⟩

/-- The INWARD END segment. -/
def inwardEnd : Segment := ⟨.inward, 0, true⟩

/-- The OUTWARD END segment of a travel. -/
def outwardEnd (travel : Nat) : Segment := ⟨.outward, travel, true⟩

/-- The current segment replaced. -/
def Plan.setCurrent (p : Plan) (g : Segment) : Plan :=
  if p.onSecond then { p with second := some g } else { p with first := g }

/-- The next segment becomes current. -/
def Plan.advance (p : Plan) : Plan := { p with onSecond := true }

/-- A TARGET segment takes its direction from the position; at its target it keeps the one it has (R99, R101 step (2), R111). -/
def Segment.aim (g : Segment) (position : Nat) : Segment :=
  if g.toEnd ∨ g.target = position then g
  else { g with dir := if position < g.target then .outward else .inward }

/-- The current segment of a plan aimed from the position. -/
def Plan.aim (p : Plan) (position : Nat) : Plan := p.setCurrent (p.current.aim position)

/-- The bridge state of a direction (R101 step (4)). -/
def Dir.bridge : Dir → BridgeState
  | .outward => .driveOut
  | .inward => .driveIn

/-! ## DLU: the end of a lock plan (R130) -/

/-- A lock-plan mark replaced. -/
def setMark (a : Axis) (v : Bool) (s : State) : State :=
  match a with
  | .step => { s with dlu := { s.dlu with stepMark := v } }
  | .awning => { s with dlu := { s.dlu with awningMark := v } }

/-- The lock state replaced. -/
def setLock (l : LockState) (s : State) : State := { s with dlu := { s.dlu with lock := l } }

/-- The lock-fault mark is set, the lock is HELD and LOCK_FAULT is raised to all ports (R130). -/
def lockFaults (a : Axis) (value : Nat) (s : State) : State :=
  raise .lockFault (axisCode a) value allPorts { s with dlu := { s.dlu with lock := .held, lockFault := true } }

/-- Both axes are stowed and IDLE (R129, R130). -/
def State.bothIn (s : State) : Bool := s.mot.step.stowedIdle && s.mot.awning.stowedIdle

/-- DLU takes the report that a plan of source LOCK ended: `fault` is the kind of an end in FAULT (R130). -/
def lockPlanEnds (a : Axis) (fault : Option MotionFault) (s : State) : State :=
  let failed := fault.isSome || !(s.axis a).stowed
  let value := (fault.map MotionFault.code).getD 0
  match s.dlu.lock, failed with
  | .free, _ => s
  | _, true => lockFaults a value (setMark a false s)
  | .held, false => setMark a false s
  | .pending, false =>
    let s1 := setMark a false s
    if ¬ s1.dlu.stepMark ∧ ¬ s1.dlu.awningMark ∧ s1.bothIn then
      raise .lockHeld 0 0 [.chassis, .panel] (setLock .held s1)
    else s1

/-! ## What MOT does, one act at a time -/

/-- The acts of MOT that set one another going within one event. -/
inductive MotAct where
  /-- The arbiter hands a free sense to a waiting axis, STEP first (R100). -/
  | handOver
  /-- An axis enters WAIT_MOTOR (R100). -/
  | wait (a : Axis)
  /-- An axis takes the sense (R101). -/
  | takeSense (a : Axis)
  /-- An axis enters RUNNING in its current segment (R101). -/
  | run (a : Axis)
  /-- An axis enters IDLE (R107). -/
  | idle (a : Axis) (why : PlanEnd)
  /-- An axis enters FAULT (R108). -/
  | fault (a : Axis)
  /-- A plan is taken (R99). -/
  | plan (a : Axis) (p : Plan) (mode : Mode) (src : Source) (jogPort : Option Port)
  /-- The grant of an axis record was lost (R111, R112). -/
  | loss (a : Axis)
  deriving DecidableEq, Repr

/-- The sense handed on (R100). `k` is what follows. -/
def handOverBy (k : MotAct → State → State) (s : State) : State :=
  match s.mot.sense with
  | some _ => s
  | none =>
    if s.mot.step.state = .waitMotor then k (.takeSense .step) s
    else if s.mot.awning.state = .waitMotor then k (.takeSense .awning) s
    else s

/-- Entry to WAIT_MOTOR: a free sense is taken at once (R100). -/
def waitBy (k : MotAct → State → State) (a : Axis) (s : State) : State :=
  let s1 := s.mapAxis a (fun r => { r with state := .waitMotor })
  if s1.mot.sense = none then k (.takeSense a) s1 else s1

/-- An axis that takes the sense leaves WAIT_MOTOR according to its record (R101). -/
def takeSenseBy (k : MotAct → State → State) (a : Axis) (s : State) : State :=
  let s1 := setSense (some a) s
  let n := axisRecord a
  if s1.granted n then k (.run a) s1
  else
    let s2 := s1.mapAxis a (fun r => { r with state := .waitGrant })
    match s2.load n with
    | some _ => s2
    | none =>
      let s3 := requestLoad n .motion 255 (s2.planTier a (s2.axis a).source) none s2
      if s3.granted n then k (.run a) s3 else s3

/-- The holder releases the sense and the arbiter hands it on; an axis that does not hold it releases nothing (R100). -/
def releaseSenseBy (k : MotAct → State → State) (a : Axis) (s : State) : State :=
  if s.mot.sense = some a then k .handOver (setSense none s) else s

/-- The entry check of an OUTWARD segment: the lock before wind, and wind before STOPN (R101). -/
def entryCheck (s : State) (a : Axis) (g : Segment) : Option HaltCause :=
  if g.dir = .inward then none
  else if s.dlu.lock ≠ .free then some .lock
  else if a = .awning ∧ s.mot.windHold then some .wind
  else if s.mot.stopn then some .stopn
  else none

/-- Steps (3) and (4) of R101: the drive starts in a direction. -/
def startDrive (a : Axis) (d : Dir) (s : State) : State :=
  requestBridge a d.bridge (s.mapAxis a (fun r => { r with
    state := .running, continuation := none, countDir := some d, lastPulse := true, firstPulse := true, overCount := 0 }))

/-- Step (1) of R101: homing goes first under status UNKNOWN. A jog is not homed (R98, log 19). -/
def homeFirst (r : AxisRec) (p : Plan) : Plan :=
  if ¬ r.known ∧ p.current.dir = .outward ∧ ¬ p.onSecond ∧ r.mode = .auto then Plan.homing p.current else p

/-- Entry to RUNNING (R101): the entry check on the current segment as it stands, homing first, then a TARGET segment aimed. A segment that the
aim turns OUTWARD is judged with the lock once more (R120, log 20). -/
def runBy (k : MotAct → State → State) (a : Axis) (s : State) : State :=
  let r := s.axis a
  match r.plan with
  | none => s
  | some p0 =>
    match entryCheck s a p0.current with
    | some c => k (.idle a (.halted c)) s
    | none =>
      let p := (homeFirst r p0).aim r.position
      let s1 := s.mapAxis a (fun r => { r with plan := some p })
      if ¬ p.current.toEnd ∧ p.current.target = r.position then
        match p.following with
        | some _ => k (.run a) (s1.mapAxis a (fun r => { r with plan := some p.advance }))
        | none => k (.idle a .ended) s1
      else if p.current.dir = .outward ∧ s.dlu.lock ≠ .free then k (.idle a (.halted .lock)) s
      else startDrive a p.current.dir s1

/-- What IDLE and FAULT discard: plan, mode, jog fields, count direction, continuation and back-off, the timers (R107, R108). -/
def AxisRec.discard (r : AxisRec) (st : AxisState) : AxisRec :=
  { r with
    state := st, plan := none, mode := .auto, jogPort := none, jogLive := false, countDir := none, continuation := none
    backOff := none, lastPulse := false, standbyTimer := false }

/-- Entry to IDLE, in the steps of R107. The axis that takes the sense released in step (3) acts within that step, before the notice of step (4) and the
report of step (5), by the model's choice (log 62). -/
def idleBy (k : MotAct → State → State) (a : Axis) (why : PlanEnd) (s : State) : State :=
  let src := (s.axis a).source
  let s1 := requestBridge a .coast (s.mapAxis a (fun r => r.discard .idle))
  let s2 := releaseSenseBy k a (release (axisRecord a) s1)
  let s3 := raise why.notice.1 (axisCode a) why.notice.2 (sourcePorts src) s2
  let s4 := if src = some .lock then lockPlanEnds a none s3 else s3
  s4.mapAxis a (fun r => { r with source := none })

/-- Whether a fault makes the count untrusted (R108 step (4)). -/
def MotionFault.spoilsCount : MotionFault → Bool
  | .noPulse => true
  | .overrun => true
  | _ => false

/-- Entry to FAULT, in the steps of R108, and the held RETRACT taken after them. The axis that takes the sense released in step (3) acts within that
step, by the model's choice (log 62). -/
def faultBy (k : MotAct → State → State) (a : Axis) (s : State) : State :=
  let src := (s.axis a).source
  let kind := (s.axis a).faultKind.getD .obstruction
  let s1 := requestBridge a .coast (s.mapAxis a (fun r => { r.discard .fault with faultKind := some kind }))
  let s2 := releaseSenseBy k a (release (axisRecord a) s1)
  let s3 := if kind.spoilsCount then s2.mapAxis a (fun r => { r with known := false }) else s2
  let s4 := raise .motionFault (axisCode a) kind.code (sourcePorts src) s3
  let s5 := if src = some .lock then lockPlanEnds a (some kind) s4 else s4
  let held := (s5.axis a).held
  let s6 := s5.mapAxis a (fun r => { r with source := none, held := none })
  match held with
  | some h => k (.plan a (Plan.single inwardEnd) .auto h none) s6
  | none => s6

/-- Entry to STOPPING: BRAKE, the last-pulse timer stopped, the continuation (R106). A FAULT continuation ends a back-off. -/
def enterStopping (a : Axis) (c : Continuation) (s : State) : State :=
  requestBridge a .brake (s.mapAxis a (fun r => { r with
    state := .stopping, lastPulse := false, continuation := some c
    backOff := if c = .backOff then r.backOff else none }))

/-- The continuation replaced during STOPPING. -/
def setContinuation (a : Axis) (c : Continuation) (s : State) : State :=
  s.mapAxis a (fun r => { r with continuation := some c, backOff := if c = .backOff then r.backOff else none })

/-- Whether a HALT may replace the continuation: not a FAULT, and not another HALT (R106, log 22). -/
def Continuation.haltable : Continuation → Bool
  | .fault => false
  | .halt _ => false
  | _ => true

/-- During STOPPING the continuation becomes HALT where it may; BACK-OFF becomes FAULT (R109, R110). -/
def haltStopping (a : Axis) (c : HaltCause) (s : State) : State :=
  match (s.axis a).continuation with
  | some .backOff => setContinuation a .fault s
  | some x => if x.haltable then setContinuation a (.halt c) s else s
  | none => setContinuation a (.halt c) s

/-- A halt of a RUNNING axis; a back-off ends in FAULT (R109, R110). -/
def haltRunning (a : Axis) (c : HaltCause) (s : State) : State :=
  if (s.axis a).backOff.isSome then enterStopping a .fault s else enterStopping a (.halt c) s

/-- STOPPING of an AUTO axis that loses its grant: NEXT becomes WAIT with the next segment current, if one remains (R111, log 23). -/
def waitStopping (a : Axis) (s : State) : State :=
  match (s.axis a).continuation, (s.axis a).plan with
  | some .backOff, _ => setContinuation a .fault s
  | some .next, some p =>
    if p.following.isSome then setContinuation a .wait (s.mapAxis a (fun r => { r with plan := some p.advance })) else s
  | _, _ => s

/-- The loss of the grant (R111 for AUTO, R112 for JOG; R109 in a back-off). -/
def lossBy (k : MotAct → State → State) (a : Axis) (s : State) : State :=
  let r := s.axis a
  match r.mode, r.state with
  | .auto, .running => if r.backOff.isSome then enterStopping a .fault s else enterStopping a .wait s
  | .auto, .stopping => waitStopping a s
  | .jog, .running => haltRunning a .grantLost s
  | .jog, .stopping => haltStopping a .grantLost s
  | .jog, .waitMotor => k (.idle a (.halted .grantLost)) s
  | .jog, .waitGrant => k (.idle a (.halted .grantLost)) s
  | .jog, .standby => k (.idle a (.halted .grantLost)) s
  | _, _ => s

/-- The tier of a standing request follows the plan's source. What LDC returns is acted on by the model's choice (log 61): a GRANTED runs an axis that
waits for its grant; a record that was GRANTED and is returned PENDING or GATED is a loss (R111, R112); one that was not GRANTED before leaves the axis
as it stands, waiting. -/
def retierBy (k : MotAct → State → State) (a : Axis) (s : State) : State :=
  let n := axisRecord a
  let tier := s.planTier a (s.axis a).source
  match s.load n with
  | none => s
  | some l =>
    if l.tier = tier then s
    else
      let s1 := requestLoad n .motion l.level tier none s
      if s1.granted n then (if (s1.axis a).state = .waitGrant then k (.run a) s1 else s1)
      else if l.isGranted then k (.loss a) s1
      else s1

/-- What a taken plan does in the axis's state (R99). -/
def planActBy (k : MotAct → State → State) (a : Axis) (s : State) : State :=
  let r := s.axis a
  match r.state, r.plan with
  | .idle, _ => k (.wait a) s
  | .fault, _ => k (.wait a) (s.mapAxis a (fun r => { r with faultKind := none }))
  | .standby, _ => k (.wait a) (s.mapAxis a (fun r => { r with standbyTimer := false }))
  | .stopping, _ => setContinuation a .newPlan s
  | .running, some p0 =>
    let p := p0.aim r.position
    let s1 := s.mapAxis a (fun r => { r with plan := some p })
    if ¬ p.current.toEnd ∧ p.current.target = r.position then enterStopping a .next s1
    else if r.countDir = some p.current.dir then s1
    else enterStopping a .newPlan s1
  | _, _ => s

/-- A plan is taken (R99): it replaces any plan and any jog, acts by the state, and then brings a standing request to its tier (log 46). -/
def planBy (k : MotAct → State → State) (a : Axis) (p : Plan) (mode : Mode) (src : Source) (jogPort : Option Port) (s : State) : State :=
  retierBy k a (planActBy k a (s.mapAxis a (fun r => { r with
    plan := some p, mode := mode, source := some src, jogPort := jogPort, jogLive := mode == .jog })))

/-- One act, its followers by `k`. -/
def motAct (k : MotAct → State → State) : MotAct → State → State
  | .handOver => handOverBy k
  | .wait a => waitBy k a
  | .takeSense a => takeSenseBy k a
  | .run a => runBy k a
  | .idle a why => idleBy k a why
  | .fault a => faultBy k a
  | .plan a p mode src j => planBy k a p mode src j
  | .loss a => lossBy k a

/-- An act with all that follows from it, to a depth (log 35). -/
def motWithin : Nat → MotAct → State → State
  | 0, _, s => s
  | d + 1, act, s => motAct (motWithin d) act s

/-- An act with all that follows from it. No chain of acts within one event is deeper than twelve: two axes, each with a plan of at most
two segments (log 35). -/
def mot (act : MotAct) (s : State) : State := motWithin 16 act s

/-! ## LDC's reports (6.7) -/

/-- MOT acts on one report: a grant or restoration runs a waiting axis, a shed or gating is R111 or R112. -/
def takeReport (q : MotReport) (s : State) : State :=
  if q.granted then
    if (s.axis q.axis).state = .waitGrant ∧ s.granted (axisRecord q.axis) then mot (.run q.axis) s else s
  else mot (.loss q.axis) s

/-- At most `d` reports are taken, in their order; what is left then is dropped (log 35). -/
def settleWithin : Nat → State → State
  | 0, s => { s with mot := { s.mot with reports := [] } }
  | d + 1, s =>
    match s.mot.reports with
    | [] => s
    | q :: rest => settleWithin d (takeReport q { s with mot := { s.mot with reports := rest } })

/-- The reports are taken in their order until none is left (R54, log 14): MOT acts as soon as the event at LDC that made them, or
its own act (log 49), has ended. -/
def settle (s : State) : State := settleWithin 64 s

/-! ## Retractions -/

/-- A RETRACT while the axis is stopping toward FAULT is held: source LOCK replaces any and is replaced by none (R108). -/
def holdRetract (a : Axis) (src : Source) (s : State) : State :=
  s.mapAxis a (fun r => { r with held := if r.held = some .lock then some .lock else some src })

/-- A RETRACT plan of a source is taken by R99, or held (R108). -/
def retract (a : Axis) (src : Source) (s : State) : State :=
  if (s.axis a).towardFault then holdRetract a src s
  else mot (.plan a (Plan.single inwardEnd) .auto src none) s

/-! ## Pulses, ends and faults (6.4, 6.5) -/

/-- A fault judged in RUNNING (R108). In a back-off the kind stays OBSTRUCTION (R109). -/
def judgeFault (a : Axis) (kind : MotionFault) (s : State) : State :=
  enterStopping a .fault (s.mapAxis a (fun r => { r with
    faultKind := some (if r.backOff.isSome then .obstruction else kind) }))

/-- A pinch: back-off where the setting and the lock allow it (R109). -/
def pinch (a : Axis) (s : State) : State :=
  let r := s.axis a
  if 0 < s.sto.live.backOff ∧ s.dlu.lock = .free then
    enterStopping a .backOff (s.mapAxis a (fun r' => { r' with
      faultKind := some .obstruction, backOff := some (min (r.position + s.sto.live.backOff) (s.sto.live.travel a)) }))
  else judgeFault a .obstruction s

/-- The back-off begins: a TARGET segment to the back-off target; at or past it, it is reached at once (R109, log 24). It is not homed
first where a new travel has made the position UNKNOWN since the pinch, by the model's choice (log 63). -/
def startBackOff (a : Axis) (s : State) : State :=
  match (s.axis a).backOff with
  | none => enterStopping a .fault s
  | some t =>
    if s.dlu.lock ≠ .free ∨ t ≤ (s.axis a).position then enterStopping a .fault s
    else startDrive a .outward s

/-- A counted pulse on the position (R102). -/
def countPulse (travel : Nat) (d : Dir) (position : Nat) : Nat :=
  match d with
  | .outward => min (position + 1) (travel + 32)
  | .inward => position - 1

/-- A TARGET segment is reached or passed (R104). -/
def Segment.reachedAt (g : Segment) (position : Nat) : Bool :=
  !g.toEnd && (match g.dir with
    | .outward => g.target ≤ position
    | .inward => position ≤ g.target)

/-- What a counted pulse in RUNNING brings about: the back-off's end, the segment's end, overrun (R104, R109). A pulse that finds the position at
travel + 32 already, and is held there, is judged as one that brings it there (log 53). -/
def judgePosition (a : Axis) (s : State) : State :=
  let r := s.axis a
  if r.state ≠ .running then s
  else match r.backOff, r.plan with
    | some t, _ => if t ≤ r.position then enterStopping a .fault s else s
    | none, some p =>
      if p.current.reachedAt r.position then enterStopping a .next s
      else if p.current.dir = .outward ∧ r.known ∧ r.position = s.sto.live.travel a + 32 then judgeFault a .overrun s
      else s
    | none, none => s

/-- The count direction by which a pulse is counted in the axis's state, or none where it spoils the count (R102). -/
def AxisRec.counts (r : AxisRec) : Option Dir :=
  match r.state with
  | .running => r.countDir
  | .stopping => r.countDir
  | .waitMotor => r.countDir
  | .waitGrant => r.countDir
  | _ => none

/-- A hall pulse on the axis record (R102). `gap` is the time since the last counted pulse, or since the entry to RUNNING, in 0.1 ms. -/
def AxisRec.pulse (r : AxisRec) (travel gap : Nat) : AxisRec :=
  match r.counts with
  | none => { r with known := false }
  | some d => { r with
      position := countPulse travel d r.position
      pulsePeriod := min gap 65535
      firstPulse := false
      lastPulse := if r.state = .running then true else r.lastPulse }

/-- The end of travel that an expiry of the last-pulse timer finds, if it finds one (R103). -/
def AxisRec.endReached (r : AxisRec) (travel : Nat) (d : Dir) : Option Nat :=
  match d with
  | .inward => if r.position ≤ 8 ∨ ¬ r.known then some 0 else none
  | .outward => if r.known ∧ travel - 8 ≤ r.position then some travel else none

/-- The expiry of the last-pulse timer of a RUNNING axis (R103, R109). -/
def lastPulseEnds (a : Axis) (s : State) : State :=
  let r := s.axis a
  if r.state ≠ .running ∨ ¬ r.lastPulse then s
  else match r.backOff, r.plan with
    | some _, _ => enterStopping a .fault s
    | none, none => s
    | none, some p =>
      match r.endReached (s.sto.live.travel a) p.current.dir with
      | some e => enterStopping a .next (s.mapAxis a (fun r => { r with position := e, known := true }))
      | none =>
        if r.firstPulse then judgeFault a .noPulse s
        else if p.current.dir = .inward then pinch a s
        else judgeFault a .obstruction s

/-- The third value above the trip (R105). -/
def overcurrent (a : Axis) (s : State) : State :=
  judgeFault a .overcurrent (s.mapAxis a (fun r => { r with overCount := 3 }))

/-- A MOTOR_I value handed on: it is read for the holder of the sense while it is RUNNING (R100, R105). -/
def takeMotorI (v : Int) (s : State) : State :=
  match s.mot.sense with
  | none => s
  | some a =>
    let r := s.axis a
    if r.state ≠ .running then s
    else if (s.sto.live.trip a : Int) < v then
      if 3 ≤ r.overCount + 1 then overcurrent a s
      else s.mapAxis a (fun r => { r with overCount := r.overCount + 1 })
    else s.mapAxis a (fun r => { r with overCount := 0 })

/-- STANDBY is entered (R114). The plan is kept, as R114 says (log 17). -/
def enterStandby (a : Axis) (s : State) : State :=
  let s1 := requestBridge a .coast (s.mapAxis a (fun r => { r with
    state := .standby, continuation := none, countDir := none, lastPulse := false, standbyTimer := true }))
  if s1.mot.sense = some a then mot .handOver (setSense none s1) else s1

/-- STOPPING ends in RUNNING while the record is GRANTED, in WAIT_GRANT with the bridge in COAST if not (R106). -/
def resumeRunning (a : Axis) (s : State) : State :=
  let s1 := s.mapAxis a (fun r => { r with continuation := none })
  if s1.granted (axisRecord a) then mot (.run a) s1
  else requestBridge a .coast (s1.mapAxis a (fun r => { r with state := .waitGrant }))

/-- STOPPING ends with NEW PLAN: COAST, the sense released, WAIT_MOTOR as a waiter (R100, R106). -/
def queueAgain (a : Axis) (s : State) : State :=
  let s1 := requestBridge a .coast (s.mapAxis a (fun r => { r with continuation := none, state := .waitMotor }))
  mot .handOver (setSense none s1)

/-- STOPPING ends with NEXT (R106). -/
def goNext (a : Axis) (s : State) : State :=
  match (s.axis a).plan with
  | some p =>
    if p.following.isSome then resumeRunning a (s.mapAxis a (fun r => { r with plan := some p.advance }))
    else mot (.idle a .ended) s
  | none => mot (.idle a .ended) s

/-- The STOPPING timer runs out (R106). -/
def stoppingEnds (a : Axis) (s : State) : State :=
  if (s.axis a).state ≠ .stopping then s
  else match (s.axis a).continuation with
    | some .next => goNext a s
    | some .newPlan => queueAgain a s
    | some .wait => resumeRunning a s
    | some .standby => enterStandby a s
    | some .resume => resumeRunning a s
    | some (.halt c) => mot (.idle a (.halted c)) s
    | some .backOff => startBackOff a s
    | some .fault => mot (.fault a) s
    | none => s

/-! ## Stops (6.6) -/

/-- STOP, or STOPN becoming active, judged for an axis in its state (R110). -/
def stopAxis (a : Axis) (c : HaltCause) (s : State) : State :=
  match (s.axis a).state with
  | .running => haltRunning a c s
  | .stopping => haltStopping a c s
  | .waitMotor => mot (.idle a (.halted c)) s
  | .waitGrant => mot (.idle a (.halted c)) s
  | .standby => mot (.idle a (.halted c)) s
  | .idle => s
  | .fault => s

/-- STOPN becomes active: STEP, then AWNING (R110), each with what follows it. -/
def stopnBecomesActive (s : State) : State :=
  if s.mot.stopn then s
  else stopAxis .awning .stopn (settle (stopAxis .step .stopn { s with mot := { s.mot with stopn := true } }))

/-! ## Jogs (6.8) -/

/-- A CONTINUE is taken (R113). -/
def continueJog (a : Axis) (s : State) : State :=
  let s1 := s.mapAxis a (fun r => { r with jogLive := true })
  match (s1.axis a).state, (s1.axis a).continuation with
  | .stopping, some .standby => setContinuation a .resume s1
  | .standby, _ => mot (.wait a) (s1.mapAxis a (fun r => { r with standbyTimer := false }))
  | _, _ => s1

/-- The jog deadline expires (R113); a back-off goes on to its own end (R109). -/
def jogDeadlineEnds (a : Axis) (s : State) : State :=
  if ¬ (s.axis a).jogLive then s
  else
    let s1 := s.mapAxis a (fun r => { r with jogLive := false })
    let r := s1.axis a
    match r.state with
    | .running => if r.backOff.isSome then s1 else enterStopping a .standby s1
    | .stopping => if r.continuation = some .resume then setContinuation a .standby s1 else s1
    | .waitMotor => if s1.granted (axisRecord a) then enterStandby a s1 else mot (.idle a (.halted .linkReset)) s1
    | .waitGrant => if s1.granted (axisRecord a) then enterStandby a s1 else mot (.idle a (.halted .linkReset)) s1
    | _ => s1

/-- The standby timer runs out: MOTION_DONE value 1 (R114). -/
def standbyEnds (a : Axis) (s : State) : State :=
  if (s.axis a).state = .standby ∧ (s.axis a).standbyTimer then mot (.idle a (.halted .linkReset)) s else s

/-- A link reset of the jog port on one axis (R115, R165 step (3)). A jog that is to drive the other way (NEW PLAN) ends as well (log 51). A back-off in
RUNNING runs on to its own end (R109, log 47). -/
def linkResetAxis (p : Port) (s : State) (a : Axis) : State :=
  let r := s.axis a
  if r.mode ≠ .jog ∨ r.jogPort ≠ some p then s
  else match r.state with
    | .running => if r.backOff.isSome then s else enterStopping a (.halt .linkReset) s
    | .stopping =>
      if r.continuation = some .standby ∨ r.continuation = some .resume ∨ r.continuation = some .next ∨ r.continuation = some .newPlan then
        setContinuation a (.halt .linkReset) s
      else s
    | .waitMotor => mot (.idle a (.halted .linkReset)) s
    | .waitGrant => mot (.idle a (.halted .linkReset)) s
    | .standby => mot (.idle a (.halted .linkReset)) s
    | _ => s

/-- A link reset of a port ends its jogs (R115), each with what follows it: STEP, then AWNING, in the model's order (log 56). -/
def linkResetJogs (p : Port) (s : State) : State := [Axis.step, .awning].foldl (fun s a => settle (linkResetAxis p s a)) s

/-! ## Plans of MOVE and of the entrance (R98, R116, R117) -/

/-- The plan of an extension (R98): outward to the end, homed first while the status is UNKNOWN. -/
def planOut (known : Bool) (travel : Nat) : Plan :=
  if known then Plan.single (outwardEnd travel) else Plan.homing (outwardEnd travel)

/-- The plan of a target (R98). A TARGET segment whose target is the position, for which the spec gives no direction, is stored INWARD: the GOTO is
not outward (R97, log 54). -/
def planToward (known : Bool) (position travel t : Nat) : Plan :=
  if t = 0 then Plan.single inwardEnd
  else if t = travel then planOut known travel
  else if known then Plan.single ⟨if position < t then .outward else .inward, t, false⟩
  else Plan.homing ⟨.outward, t, false⟩

/-- An axis IDLE and KNOWN at or above travel - 8 has nothing to extend (R98, R116). -/
def AxisRec.outAndIdle (r : AxisRec) (travel : Nat) : Bool := r.state == .idle && r.known && travel - 8 ≤ r.position

/-- The plan of an EXTEND is taken by R99 (R98). -/
def extend (a : Axis) (src : Source) (s : State) : State :=
  mot (.plan a (planOut (s.axis a).known (s.sto.live.travel a)) .auto src none) s

/-- The conditions of an entrance extension (R116). -/
def State.entryAllows (s : State) : Bool :=
  let r := s.mot.step
  s.sto.live.autoStep && s.dlu.lock == .free && !s.dlu.ignition && !s.dlu.stale && !s.mot.stopn
    && r.state != .fault && !r.towardFault && !r.runsSource .lock && !r.runsSource .wind
    && !(r.mode == .jog && r.state != .idle)

/-- The ENTRY contact opens (R116). An opening given while it is open already is taken as one (log 59). -/
def entryOpens (s : State) : State :=
  let s1 := { s with mot := { s.mot with entryOpen := true } }
  if s1.entryAllows ∧ ¬ s1.mot.step.outAndIdle s1.sto.live.stepTravel then extend .step .entry s1 else s1

/-- DLU hands MOT an ignition-on event (R117). -/
def ignitionTurnsOn (s : State) : State :=
  let r := s.mot.step
  if s.sto.live.autoStep ∧ ¬ r.stowedIdle ∧ ¬ r.runsSource .lock ∧ ¬ r.runsSource .wind then retract .step .entry s else s

/-! ## Wind (6.10) -/

/-- The wind hold becomes active: an outward awning is halted (R118, log 32). One in STANDBY stays there (R114, log 57). -/
def haltForWind (s : State) : State :=
  let r := s.mot.awning
  if ¬ r.outwardSegment ∨ r.towardFault then s
  else match r.state with
    | .running => haltRunning .awning .wind s
    | .stopping => haltStopping .awning .wind s
    | .waitMotor => mot (.idle .awning (.halted .wind)) s
    | .waitGrant => mot (.idle .awning (.halted .wind)) s
    | _ => s

/-- A window above the limit makes the hold active and restarts the calm timer (R118). -/
def windAbove (s : State) : State :=
  let s1 := { s with mot := { s.mot with windHold := true, calmTimer := true } }
  if s.mot.windHold then s1 else haltForWind s1

/-- The wind retraction of the awning, unless it is stowed, under a safety plan or stopping toward FAULT (R119). The notice comes first, as
in 12 section 12.3. -/
def windRetract (count : Nat) (s : State) : State :=
  let r := s.mot.awning
  if r.stowed ∨ r.runsSource .wind ∨ r.runsSource .lock ∨ r.towardFault then s
  else retract .awning .wind (raise .windRetract 1 count allPorts s)

/-- The end of a window (R118, R119): the hold with what follows it, then the retraction. -/
def windowEnds (s : State) : State :=
  let count := s.mot.windCount
  let above := decide (s.sto.live.windLimit < count)
  let s1 := { s with mot := { s.mot with windCount := 0, prevAbove := above } }
  if above then
    let s2 := settle (windAbove s1)
    if s.mot.prevAbove then windRetract count s2 else s2
  else s1

/-- The calm timer runs out (R118). -/
def calmEnds (s : State) : State :=
  if s.mot.calmTimer then { s with mot := { s.mot with calmTimer := false, windHold := false } } else s

/-! ## The drive lock as MOT sees it (R120) -/

/-- The lock leaves FREE: an outward drive is halted, a back-off stops with FAULT (R109, R120). -/
def lockStopsAxis (s : State) (a : Axis) : State :=
  let r := s.axis a
  if r.drivesOutward then haltRunning a .lock s
  else if r.state = .stopping ∧ r.continuation = some .backOff then setContinuation a .fault s
  else s

/-- The lock leaves FREE for both axes (R120). -/
def lockStopsAxes (s : State) : State := [Axis.step, .awning].foldl lockStopsAxis s

end Sys2Proof.Machine
end

