-- ==== Sys2Proof/Machine/Calls.lean ====
section
/-! DEFINITION. The events at LDC that the other blocks call for, each with what follows it directly: MOT acts on LDC's reports as soon as the event has ended, before the caller goes on (R54, log 14). With them HEAT's requests and the end of CWC's fallback (R138, R142, R143). -/

namespace Sys2Proof.Machine

/-! ## Requests and releases -/

/-- A release by CWC (R54), and MOT on the reports of its admission. -/
def releaseCall (n : Fin 14) (s : State) : State := settle (release n s)

/-- A request by CWC (R53). What LDC returns is acted on first (`answered`), then MOT acts on the reports. -/
def requestCall (n : Fin 14) (level : Nat) (tier : Tier) (answered : State → State) (s : State) : State :=
  settle (answered (requestLoad n .climate level tier none s))

/-! ## HEAT and the fallback (R138, R142, R143) -/

/-- The tier of the HEAT request in the effective mode (R138). -/
def State.heatTier (s : State) : Tier :=
  match s.cwc.effMode with
  | .eco => s.sto.live.tier[outHeat]
  | .comfort => s.sto.live.tier[outHeat]
  | _ => .essential

/-- A GATED that LDC returns for HEAT is handled as a gating (R141, R142). -/
def heatAnswered (s : State) : State := if s.gated outHeat then heatGated s else s

/-- CWC requests HEAT at the tier of the effective mode (R141, R142). -/
def requestHeat (s : State) : State := requestCall outHeat 255 s.heatTier heatAnswered s

/-- After a change of the effective mode: a standing request of another tier is made again at the new tier (R138). -/
def retierHeat (s : State) : State :=
  match s.load outHeat with
  | some l => if l.tier = s.heatTier then s else requestHeat s
  | none => s

/-- HEAT is requested again where it is PENDING, GRANTED or GATED, whatever its tier (R143). -/
def renewHeat (s : State) : State := if (s.load outHeat).isSome then requestHeat s else s

/-- The end of the fallback: the effective mode becomes the set mode, and a standing HEAT is requested again (R143). -/
def endFallback (s : State) : State :=
  if s.cwc.effMode = .fallback ∧ (s.cwc.setMode = .eco ∨ s.cwc.setMode = .comfort) then
    renewHeat { s with cwc := { s.cwc with effMode := s.cwc.setMode } }
  else s

/-- The condition of HEAT's configured tier (R143). -/
def State.heatCondition (s : State) : TierCondition := tierCondition s.ldc s.sto.live.tier[outHeat]

/-! ## Gate events and the budget -/

/-- A gate event (R75) with what follows it: MOT on its reports, then the end of CWC's fallback if the condition of HEAT's configured tier became
OPEN (R143, log 16). -/
def gateCall (change : State → State) (s : State) : State :=
  let s1 := settle (gateEvent change s)
  if (change s).heatCondition = .isOpen ∧ s.heatCondition ≠ .isOpen then endFallback s1 else s1

/-- CHG hands a SoC to LDC (R24, R68). -/
def handSoc (soc : Nat) (s : State) : State :=
  gateCall (fun s => judgeGates { s with ldc := { s.ldc with soc := some soc } }) s

/-- CHG hands both alarm states to LDC (R38, R69). -/
def handAlarms (lvd critical : Bool) (s : State) : State :=
  gateCall (fun s => { s with ldc := { s.ldc with lvd := lvd, critical := critical } }) s

/-- A call from CWC on a pump hold: an event of R75 if it changes the hold (R79). -/
def setHold (h : PumpHold) (v : Bool) (s : State) : State :=
  if s.ldc.hold h = v then s else gateCall (fun s => { s with ldc := s.ldc.setHold h v }) s

/-- The budget is recomputed (R64), and MOT acts on the reports. -/
def budgetCall (s : State) : State := settle (recomputeBudget s)

/-- CHG hands the supply state to LDC (R63, R64). -/
def handSupply (present : Bool) (s : State) : State :=
  if s.ldc.supply = present then s else budgetCall { s with ldc := { s.ldc with supply := present } }

/-- DLU hands the engine-running state to LDC (R63, R64). -/
def handEngine (running : Bool) (s : State) : State :=
  if s.ldc.engine = running then s else budgetCall { s with ldc := { s.ldc with engine := running } }

end Sys2Proof.Machine
end

