-- ==== Sys2Proof/Machine/Store.lean ====
section
/-! DEFINITION. The Settings Store: the stored record's bytes (R170, R181), its reading (R176), writes and checkpoint requests (R173). -/

namespace Sys2Proof.Machine

/-- The number of a heating mode (R138). -/
def HeatMode.code : HeatMode → Nat
  | .off => 0
  | .frost => 1
  | .eco => 2
  | .comfort => 3
  | .fallback => 4

/-- The set mode of a number (R139). -/
def HeatMode.ofCode : Nat → Option HeatMode
  | 0 => some .off
  | 1 => some .frost
  | 2 => some .eco
  | 3 => some .comfort
  | _ => none

/-- The settings part: each setting in rising id order (R181). -/
def settingsPart (st : Settings) : List Byte := settingOrder.flatMap (settingBytes st)

/-- One scene: an entry count and eight slots of output and level, unused slots 0 (R181). -/
def sceneBytes (l : List SceneEntry) : List Byte :=
  byteOf l.length :: (l.flatMap (fun e => [byteOf e.output.val, e.level])
    ++ List.replicate (2 * (8 - l.length)) 0)

/-- The scenes part (R181). -/
def scenesPart (v : Vector (List SceneEntry) 8) : List Byte := v.toList.flatMap sceneBytes

/-- The heating part: set mode and comfort target (R181). -/
def heatingPart (c : Cwc) : List Byte := byteOf c.setMode.code :: le2 c.target

/-- The checkpoint part: C, the SoC status and the dump state; an unset account writes 0 with ESTIMATED, and only CLOSED is written as
CLOSED (R150, R170, R181). -/
def checkpointPart (c : Chg) (d : DumpState) : List Byte :=
  le4 (if c.accountSet then (c.content : Int) else 0)
    ++ [markByte (c.accountSet && c.synced), markByte (d == .closed)]

/-- The stored record's bytes with the image and the live heating and checkpoint parts, closed by the CRC-16 (R170, R181). -/
def recordBytes (s : State) : List Byte :=
  let covered := settingsPart s.sto.image ++ scenesPart s.sto.imageScenes ++ heatingPart s.cwc
    ++ checkpointPart s.chg s.cwc.dump
  covered ++ le2 ((crc16 covered).toNat : Int)

/-- A write starts with its contents as they stand (R173). -/
def startWrite (s : State) : State := { s with sto := { s.sto with writing := some (recordBytes s) } }

/-- The saved image takes the live settings and scenes (R170). -/
def saveImage (s : State) : State :=
  { s with sto := { s.sto with image := s.sto.live, imageScenes := s.ldc.scenes } }

/-- A checkpoint request is held (R173). -/
def holdCheckpoint (s : State) : State := { s with sto := { s.sto with heldCheckpoint := true } }

/-- CHG's checkpoint request: a write in IDLE, held in WRITING (R173). -/
def requestCheckpoint (s : State) : State :=
  match s.sto.writing with
  | none => startWrite s
  | some _ => holdCheckpoint s

/-- The completion of a write (R173). -/
def completeWrite (s : State) : State :=
  match s.sto.writing with
  | none => s
  | some bytes =>
    let s1 := { s with sto := { s.sto with
      writing := none, stored := .written bytes, writeCount := s.sto.writeCount + 1, recordGood := true } }
    if s.sto.heldCheckpoint then startWrite { s1 with sto := { s1.sto with heldCheckpoint := false } } else s1

/-! ## Reading the record -/

/-- What a good record gives (R176). -/
structure LoadedRecord where
  settings : Settings
  scenes : Vector (List SceneEntry) 8
  setMode : HeatMode
  target : Int
  content : Nat
  synced : Bool
  closed : Bool
  deriving DecidableEq, Repr

/-- Read setting values in order. -/
def readSettings : List SettingId → List Byte → Settings → Option Settings
  | [], _, st => some st
  | i :: rest, l, st =>
    match readValue i.form (l.take i.form.len) with
    | some v => readSettings rest (l.drop i.form.len) (st.put i v)
    | none => none

/-- Read `n` entries of a scene. -/
def readEntries : Nat → List Byte → Option (List SceneEntry)
  | 0, _ => some []
  | n + 1, o :: v :: rest =>
    if h : o.toNat < 14 then (readEntries n rest).map (fun l => ⟨⟨o.toNat, h⟩, v⟩ :: l) else none
  | _ + 1, _ => none

/-- Read the scene whose seventeen bytes are given. -/
def readScene : List Byte → Option (List SceneEntry)
  | [] => none
  | n :: rest => if n.toNat ≤ 8 then readEntries n.toNat rest else none

/-- Read `n` scenes of seventeen bytes each. -/
def readScenes : Nat → List Byte → Option (List (List SceneEntry))
  | 0, _ => some []
  | n + 1, l => match readScene (l.take 17), readScenes n (l.drop 17) with
    | some e, some r => some (e :: r)
    | _, _ => none

/-- The length of the settings part. -/
def settingsLength : Nat := (settingOrder.map (fun i => i.form.len)).sum

/-- The length of the record without its CRC: settings, eight scenes of 17, heating 3, checkpoint 6. -/
def coveredLength : Nat := settingsLength + 136 + 3 + 6

/-- The parts of the record's bytes before the CRC. -/
def parseRecord (l : List Byte) : Option LoadedRecord :=
  let rest := l.drop settingsLength
  let tail := rest.drop 136
  match readSettings settingOrder l .default, readScenes 8 (rest.take 136), HeatMode.ofCode (readLe (tail.take 1)) with
  | some st, some sc, some m =>
    if h : sc.length = 8 then
      some { settings := st, scenes := ⟨sc.toArray, by simpa using h⟩, setMode := m
             target := readLe2Signed ((tail.drop 1).take 2)
             content := (readLe4Signed ((tail.drop 3).take 4)).toNat
             synced := readLe ((tail.drop 7).take 1) == 1
             closed := readLe ((tail.drop 8).take 1) == 1 }
    else none
  | _, _, _ => none

/-- The record is GOOD when its computed CRC equals the stored one (R176, R181); a spoiled record is BAD (R174). -/
def readRecord : StoredRecord → Option LoadedRecord
  | .spoiled => none
  | .written bytes =>
    if bytes.length = coveredLength + 2 ∧ (crc16 (bytes.take coveredLength)).toNat = readLe (bytes.drop coveredLength) then
      parseRecord (bytes.take coveredLength)
    else none

end Sys2Proof.Machine
end

