-- ==== Sys2Proof/Machine/Charge.lean ====
section
/-! DEFINITION. The Charge Counter: capacity and SoC (R23, R24), integration (R19 to R22), history (R26, R27), time-to-floor (R29), rest calibration (R30 to R34), full sync (R35), SET_CHARGE (R36), alarms (R37, R38), supply (R39). A notice that CHG raises stands ahead of the notices of the event that LDC makes from the same change (section 9.9; log 13). -/

namespace Sys2Proof.Machine

/-! ## SoC -/

/-- The lowest SoC tracker takes a SoC (R27). -/
def trackSoc (soc : Nat) (c : Chg) : Chg := { c with lowSoc := some (min soc (c.lowSoc.getD soc)) }

/-- A SoC in force, tracked and handed to LDC (R24, R27). -/
def applySoc (soc : Nat) (s : State) : State :=
  handSoc soc { s with chg := trackSoc soc { s.chg with soc := soc } }

/-- Cu and SoC are recomputed; a changed SoC is handed on. While the account is unset SoC is not computed (R17, R24). -/
def recomputeSoc (s : State) : State :=
  if s.chg.accountSet ∧ s.socNow ≠ s.chg.soc then applySoc s.socNow s else s

/-- The account becomes set: SoC is computed, tracked and handed to LDC (R17, R27). -/
def setAccount (s : State) : State :=
  let s1 := { s with chg := { s.chg with accountSet := true } }
  applySoc s1.socNow s1

/-! ## History (R26, R27, R29) -/

/-- A ring of `n` entries takes its newest; the oldest leaves first when it is full. -/
def ringPush {α : Type} (n : Nat) (x : α) (l : List α) : List α := (if l.length < n then l else l.drop 1) ++ [x]

/-- The hour push (R27); the number of pushes since returns to 0 (R26). -/
def hourPush (s : State) : State :=
  let c := s.chg
  let e : HourEntry := ⟨Int.tdiv c.minuteRing.sum 3600, c.lowSoc, c.lowOutside⟩
  { s with chg := { c with
      hourRing := ringPush 24 e c.hourRing
      hourSeq := c.hourSeq + 1
      pushesSinceHour := 0
      lowSoc := if c.accountSet then some c.soc else none
      lowOutside := none } }

/-- Time-to-floor (R29). -/
def ttfNow (s : State) : Nat :=
  let n := s.chg.minuteRing.length
  let avg := Int.tdiv s.chg.minuteRing.sum (n * 60)
  if 0 ≤ avg then 65535
  else
    let cFloor := s.sto.live.floorEssential * s.usable / 1000
    if s.chg.content ≤ cFloor then 0 else min 65534 ((s.chg.content - cFloor) * 60 / avg.natAbs)

/-- Steps (1) and (2) of a minute push (R26). -/
def pushMinute (s : State) : State :=
  let c := s.chg
  let s1 := { s with chg := { c with
      minuteRing := ringPush 60 c.minuteAcc c.minuteRing
      minuteAcc := 0, minuteSeq := c.minuteSeq + 1, periodCount := 0 } }
  { s1 with chg := { s1.chg with ttf := ttfNow s1 } }

/-- Step (3) of a minute push: the sixtieth makes the hour push (R26). -/
def countForHour (s : State) : State :=
  let s1 := { s with chg := { s.chg with pushesSinceHour := s.chg.pushesSinceHour + 1 } }
  if 60 ≤ s1.chg.pushesSinceHour then hourPush s1 else s1

/-- Step (4) of a minute push: the fifteenth requests a checkpoint write (R26, R40). -/
def countForCheckpoint (s : State) : State :=
  let k := s.chg.checkpointPushes + 1
  if 15 ≤ k then requestCheckpoint { s with chg := { s.chg with checkpointPushes := 0 } }
  else { s with chg := { s.chg with checkpointPushes := k } }

/-- The minute push (R26). -/
def minutePush (s : State) : State := countForCheckpoint (countForHour (pushMinute s))

/-- One period is counted; the 6,000th makes the minute push (R20 step (5)). -/
def countPeriod (s : State) : State :=
  let s1 := { s with chg := { s.chg with periodCount := s.chg.periodCount + 1 } }
  if 6000 ≤ s1.chg.periodCount then minutePush s1 else s1

/-- `n` periods are counted in turn. -/
def countPeriods : Nat → State → State
  | 0, s => s
  | n + 1, s => countPeriods n (countPeriod s)

/-- d joins the minute accumulator and one period is counted (R20 step (5)). -/
def accumulate (d : Int) (s : State) : State :=
  countPeriod { s with chg := { s.chg with minuteAcc := s.chg.minuteAcc + d } }

/-! ## Integration (R20) -/

/-- The residue units of one mAh (00 section 7). -/
def residueUnit : Int := 921600

/-- Step (1) of R20: charging current is weighted by the efficiency, discharge counted whole. -/
def weighted (eta : Nat) (d : Int) : Int := if 0 < d then d * eta else d * 256

/-- Steps (2) to (4) of R20 on C and r: the sum, the carry and the clamp, with whether a carry was made. -/
def carryClamp (cap content : Nat) (r : Int) : Nat × Int × Bool :=
  if residueUnit ≤ r then
    if cap < content + 1 then (cap, 0, true) else (content + 1, r - residueUnit, true)
  else if r ≤ -residueUnit then
    if content = 0 then (0, 0, true) else (content - 1, r + residueUnit, true)
  else (content, r, false)

/-- One integration (R20). A carry recomputes SoC before the next integration; here before the pushes of step (5) (log 41). -/
def integrate (d : Int) (s : State) : State :=
  let q := carryClamp s.sto.live.cap s.chg.content (s.chg.residue + weighted s.sto.live.eta d)
  let s1 := { s with chg := { s.chg with content := q.1, residue := q.2.1 } }
  accumulate d (if q.2.2 then recomputeSoc s1 else s1)

/-- The n integrations of a sample, in turn (R19, R21). -/
def integrateTimes : Nat → Int → State → State
  | 0, _, s => s
  | n + 1, d, s => integrateTimes n d (integrate d s)

/-- An unset account: d is added and a period counted n times (R19 step (2)). -/
def accumulateTimes : Nat → Int → State → State
  | 0, _, s => s
  | n + 1, d, s => accumulateTimes n d (accumulate d s)

/-! ## Rest calibration (R30 to R34) -/

/-- In TIMING and AVERAGING the state becomes TIMING with the timer at 0; IDLE stays (R34). -/
def Rest.restart : Rest → Rest
  | .idle => .idle
  | _ => .timing 0

/-- The rest timer to 0, a window abandoned (R34). -/
def restartRest (s : State) : State := { s with chg := { s.chg with rest := s.chg.rest.restart } }

/-- The rest-calibration state replaced. -/
def setRest (r : Rest) (s : State) : State := { s with chg := { s.chg with rest := r } }

/-- C set from a SoC with Cu as it stands, r to 0 (R32, R36, R17). -/
def contentFromSoc (soc : Nat) (s : State) : State :=
  { s with chg := { s.chg with content := soc * s.usable / 1000, residue := 0 } }

/-- The SoC status (R25). -/
def setSynced (b : Bool) (s : State) : State := { s with chg := { s.chg with synced := b } }

/-- The SoC estimate of a window: the OCV table at the truncated mean (R32 steps (1), (2)). -/
def windowEstimate (s : State) (sum count : Nat) : Nat := ocvEstimate s.sto.live.ocvTable (sum / count)

/-- The window closes normally (R32). -/
def closeWindow (s : State) : State :=
  match s.chg.rest with
  | .averaging sum count _ =>
    let est := windowEstimate s sum count
    let s1 := setSynced true (contentFromSoc est (setRest (.timing 0) s))
    recomputeSoc (raise .chargeSync 0 est allPorts s1)
  | _ => s

/-- The window closes as an excursion (R33). -/
def closeExcursion (s : State) : State :=
  match s.chg.rest with
  | .averaging sum count _ => raise .chargeSync 1 (windowEstimate s sum count) allPorts (setRest (.timing 0) s)
  | _ => s

/-- The averaging window opens (R30). -/
def openWindow (s : State) : State := setRest (.averaging 0 0 0) s

/-- The rest judgement of a sample with its n periods (R30, R31). -/
def judgeRest (d : Int) (n : Nat) (s : State) : State :=
  match s.chg.rest with
  | .idle => s
  | .timing timer =>
    if d.natAbs ≤ s.sto.live.restThreshold then
      if s.sto.live.restPeriod * 6000 ≤ timer + n then openWindow s else setRest (.timing (timer + n)) s
    else setRest (.timing 0) s
  | .averaging sum count periods =>
    if d.natAbs ≤ s.sto.live.restThreshold then
      if 1600 ≤ periods + n then closeWindow s else setRest (.averaging sum count (periods + n)) s
    else closeExcursion s

/-! ## Full sync (R35) -/

/-- The full-sync timer set to 0 and armed. -/
def rearmFull (s : State) : State := { s with chg := { s.chg with fullTimer := 0, fullArmed := true } }

/-- The three conditions of R35. -/
def State.fullConditions (s : State) (d : Int) : Bool :=
  s.chg.supply && (s.slotValue 1).any (fun v => (s.sto.live.fullVoltage : Int) ≤ v) && 0 ≤ d && d ≤ s.sto.live.tailCurrent

/-- The full sync (R35). -/
def fullSync (s : State) : State :=
  let s1 := setSynced true { s with chg := { s.chg with
    content := min s.usable s.sto.live.cap, residue := 0, fullArmed := false } }
  recomputeSoc (raise .chargeSync 2 1000 allPorts (restartRest s1))

/-- The full-sync judgement of a sample with its n periods (R35). -/
def judgeFull (d : Int) (n : Nat) (s : State) : State :=
  if s.fullConditions d then
    if s.chg.fullArmed then
      let s1 := { s with chg := { s.chg with fullTimer := s.chg.fullTimer + n } }
      if 30000 ≤ s1.chg.fullTimer then fullSync s1 else s1
    else s
  else rearmFull s

/-! ## Samples -/

/-- The SoC status loses confidence after a suspect run (R22). -/
def suspectLimit (s : State) : State := setSynced false s

/-- A suspect sample (R22): the pushes of its periods come before the status becomes ESTIMATED (log 40). -/
def suspectSample (n : Nat) (s : State) : State :=
  let s1 := countPeriods n s
  let run := s1.chg.suspectRun + n
  let s2 := { s1 with chg := { s1.chg with suspectRun := min 65535 run } }
  let s3 := if s1.chg.suspectRun ≤ 6000 ∧ 6000 < run then suspectLimit s2 else s2
  rearmFull (restartRest s3)

/-- A HOUSE_I sample with m missed periods (R19). -/
def takeSample (d : Int) (suspect : Bool) (m : Nat) (s : State) : State :=
  let n := m + 1
  if suspect then suspectSample n s
  else
    let s1 := { s with chg := { s.chg with suspectRun := 0 } }
    if s1.chg.accountSet then judgeFull d n (judgeRest d n (integrateTimes n d s1))
    else accumulateTimes n d s1

/-! ## Alarms (R37, R38) -/

/-- One alarm's counter at a HOUSE_V value (R37): the state after and the counter after. -/
def alarmCount (active : Bool) (count mv threshold : Nat) : Bool × Nat :=
  if active then
    if threshold + 600 ≤ mv then (if 100 ≤ count + 1 then (false, 0) else (true, count + 1)) else (true, 0)
  else
    if mv < threshold then (if 10 ≤ count + 1 then (true, 0) else (false, count + 1)) else (false, 0)

/-- A change of the alarms (R38): LOW_VOLTAGE, the states handed to LDC, and on the entry of CRITICAL a checkpoint request. Whether a write
that starts here holds the dump state of before or after LDC's event is a free value (12 section 12.1, log 12). -/
def applyAlarms (lvd critical : Bool) (s : State) : State :=
  if s.chg.lvd = lvd ∧ s.chg.critical = critical then s
  else
    let s1 := { s with chg := { s.chg with lvd := lvd, critical := critical } }
    let s2 := raise .lowVoltage 0 s1.chg.alarmLevel allPorts s1
    let s3 := handAlarms lvd critical s2
    if critical ∧ ¬ s.chg.critical then
      match s2.sto.writing with
      | some _ => holdCheckpoint s3
      | none => { s3 with
          sto := { s3.sto with
            writing := some (if Config.checkpointSeesGates s3.freeIndex then recordBytes s3 else recordBytes s2) }
          freeIndex := s3.freeIndex + 1 }
    else s3

/-- The alarm counters at one HOUSE_V value, and the change they may bring (R37, R38). -/
def judgeAlarms (mv : Nat) (s : State) : State :=
  let l := alarmCount s.chg.lvd s.chg.lvdCount mv s.sto.live.lvdVoltage
  let k := alarmCount s.chg.critical s.chg.criticalCount mv s.sto.live.criticalVoltage
  applyAlarms l.1 k.1 { s with chg := { s.chg with lvdCount := l.2, criticalCount := k.2 } }

/-- The start estimate of R17 from the first HOUSE_V: C from the OCV table, r = 0, ESTIMATED, the account set. -/
def startEstimate (mv : Nat) (s : State) : State :=
  setAccount (setSynced false (contentFromSoc (ocvEstimate s.sto.live.ocvTable mv) s))

/-- A HOUSE_V value handed on (R17, R31, R35, R37). -/
def takeHouseV (mv : Nat) (s : State) : State :=
  let s1 := if s.chg.accountSet then s else startEstimate mv s
  let s2 := match s1.chg.rest with
    | .averaging sum count periods => setRest (.averaging (sum + mv) (count + 1) periods) s1
    | _ => s1
  let s3 := if mv < s2.sto.live.fullVoltage then rearmFull s2 else s2
  judgeAlarms mv s3

/-! ## Supply (R39) -/

/-- A change of the supply state (R39). -/
def applySupply (present : Bool) (s : State) : State :=
  if s.chg.supply = present then s
  else
    let s1 := { s with chg := { s.chg with supply := present, supplyCount := 0 } }
    let s2 := if present then s1 else rearmFull s1
    handSupply present (raise .supplyChanged 0 (if present then 1 else 0) allPorts s2)

/-- A SUPPLY_V value handed on (R39). -/
def takeSupplyV (mv : Nat) (s : State) : State :=
  let counted := if s.chg.supply then decide (mv < 12800) else decide (13200 ≤ mv)
  if counted then
    if 200 ≤ s.chg.supplyCount + 1 then applySupply (!s.chg.supply) s
    else { s with chg := { s.chg with supplyCount := s.chg.supplyCount + 1 } }
  else { s with chg := { s.chg with supplyCount := 0 } }

/-! ## Temperatures and requests -/

/-- A T_BATT handing-on (R23, R24). -/
def takeBatteryTemp (slot : Slot) (s : State) : State :=
  recomputeSoc (match slot.reading, slot.fault with
    | some v, false => { s with chg := { s.chg with temp := some v.2 } }
    | _, _ => s)

/-- A T_OUTSIDE handing-on to CHG: the lowest-temperature tracker (R27). -/
def trackOutside (slot : Slot) (s : State) : State :=
  match slot.reading, slot.fault with
  | some v, false => { s with chg := { s.chg with lowOutside := some (min v.2 (s.chg.lowOutside.getD v.2)) } }
  | _, _ => s

/-- SET_CHARGE (R36). -/
def setCharge (soc : Nat) (s : State) : State :=
  let s1 := restartRest (setSynced true (contentFromSoc soc s))
  recomputeSoc s1

/-- A change of Cap (R18): C above the new Cap is clamped with r to 0, and the status becomes ESTIMATED. -/
def applyCap (s : State) : State :=
  let s1 := if s.sto.live.cap < s.chg.content then
      { s with chg := { s.chg with content := s.sto.live.cap, residue := 0 } } else s
  recomputeSoc (setSynced false s1)

/-- OCV enable put on or off (R34). -/
def applyOcvEnable (on : Bool) (s : State) : State :=
  match on, s.chg.rest with
  | false, _ => setRest .idle s
  | true, .idle => setRest (.timing 0) s
  | true, _ => s

end Sys2Proof.Machine
end

