-- ==== Sys2Proof/Machine/Climate.lean ====
section
/-! DEFINITION. The Climate and Water Controller (08): thermostat and HEAT (R140, R141), pad (R144), dump valve (R145 to R149), tank levels (R151 to R154), freeze (R126, R152), and CWC's calls on LDC (R142, R145, R153). Each call on LDC is one of Calls.lean, after which MOT has acted on its reports. -/

namespace Sys2Proof.Machine

/-! ## Thermostat -/

/-- The demand comes on: HEAT is requested (R141). While the minimum-off timer runs it stays off (R140). -/
def demandOn (s : State) : State :=
  if s.cwc.demand ∨ s.cwc.minOff.isSome then s
  else requestHeat { s with cwc := { s.cwc with demand := true } }

/-- The demand goes off: HEAT is released and the minimum-off timer starts at 60 s (R141). -/
def demandOff (s : State) : State :=
  if s.cwc.demand then
    let s1 := releaseCall outHeat { s with cwc := { s.cwc with demand := false } }
    { s1 with cwc := { s1.cwc with minOff := some 60 } }
  else s

/-- The judgement of the demand against a target (R140). -/
def judgeTarget (target : Int) (s : State) : State :=
  match s.cwc.tCabin.good, s.cwc.tCabin.value with
  | true, some v => if v ≤ target - 5 then demandOn s else if target ≤ v then demandOff s else s
  | _, _ => if s.cwc.effMode = .frost ∨ s.cwc.effMode = .fallback then demandOn s else s

/-- The judgement of the demand (R140). -/
def judgeDemand (s : State) : State :=
  match s.cwc.effectiveTarget with
  | none => s
  | some t => judgeTarget t s

/-- The minimum-off timer runs out and the demand is judged (R141). -/
def minimumOffEnds (s : State) : State :=
  match s.cwc.minOff with
  | none => s
  | some _ => judgeDemand { s with cwc := { s.cwc with minOff := none } }

/-- The effective mode becomes another (R138): a change into OFF turns the demand off; otherwise a standing HEAT request is made again at
a new tier. Where the effective mode is the same nothing is requested. -/
def changeMode (m : HeatMode) (s : State) : State :=
  let s1 := { s with cwc := { s.cwc with effMode := m } }
  if m = s.cwc.effMode then s
  else if m = .off then demandOff s1
  else retierHeat s1

/-- A taken SET_CLIMATE (R139). -/
def applyClimate (m : HeatMode) (target : Int) (s : State) : State :=
  let s1 := { s with cwc := { s.cwc with setMode := m, target := target } }
  if m = .off ∨ m = .frost then changeMode m s1
  else if s1.heatCondition = .isOpen then changeMode m s1
  else changeMode .fallback s1

/-- CWC's fallback call reaches LDC: HEAT is requested at ESSENTIAL if the effective mode is still FALLBACK and HEAT still GATED (R142). The
command is taken as that call also where none waits (log 60). -/
def takeFallbackCall (s : State) : State :=
  let s1 := { s with calls := s.calls.erase .fallback }
  if s1.cwc.effMode = .fallback ∧ s1.gated outHeat then requestHeat s1 else s1

/-! ## Dump valve -/

/-- DUMP is requested; a returned GRANTED makes the state CLOSED (R146, R148, R149). -/
def startClosing (s : State) : State :=
  requestCall outDump 255 .essential (fun s => if s.granted outDump then { s with cwc := { s.cwc with dump := .closed } } else s)
    { s with cwc := { s.cwc with dump := .closing } }

/-- Entry to DUMPED at an event of CWC's own: the state, the release of DUMP, the dumped hold, FROST_DUMP (R147). -/
def enterDumped (subject : Nat) (s : State) : State :=
  raiseFrostDump subject (setHold .dumped true (releaseCall outDump { s with cwc := { s.cwc with dump := .dumped } }))

/-- The cold cause judged in CLOSED and CLOSING (R147). -/
def judgeCold (s : State) : State :=
  if (s.cwc.dump = .closed ∨ s.cwc.dump = .closing) ∧ s.coldUnheated then enterDumped 1 s else s

/-- The exit from STARTUP at the first temperature in use (R146). -/
def leaveStartup (s : State) : State :=
  match s.cwc.temp.value with
  | none => s
  | some t =>
    if s.cwc.storedClosed ∧ s.sto.live.dumpThreshold + 10 < t then startClosing s else enterDumped 0 s

/-- The dump valve judged at a handing-on of T_OUTSIDE (R146, R147). -/
def judgeValve (s : State) : State := if s.cwc.dump = .startup then leaveStartup s else judgeCold s

/-- The dumped-hold call reaches LDC: the hold is set only if the dump state is still DUMPED (R145). -/
def takeDumpedCall (s : State) : State :=
  let s1 := { s with calls := s.calls.erase .dumpedHold }
  if s1.cwc.dump = .dumped then setHold .dumped true s1 else s1

/-- A taken DUMP_NOW (R149). -/
def dumpByRequest (s : State) : State := if s.cwc.dump = .dumped then s else enterDumped 3 s

/-- A taken CLOSE in DUMPED (R149): the hold is cleared, the state becomes CLOSING and DUMP is requested. -/
def closeByRequest (s : State) : State := startClosing (setHold .dumped false s)

/-! ## Pad -/

/-- The pad duty of the temperature in use (R144). -/
def padDutyOf (t : TempInUse) : Nat :=
  match t.value with
  | some v => (clampInt 0 255 ((50 - v) * 4)).toNat
  | none => 255

/-- The pad duty is computed and PAD requested, changed or released (R144). -/
def judgePad (s : State) : State :=
  let duty := padDutyOf s.cwc.temp
  let s1 := { s with cwc := { s.cwc with padDuty := duty } }
  match s1.load outPad with
  | none => if duty = 0 then s1 else requestCall outPad duty .essential id s1
  | some _ => if duty = 0 then releaseCall outPad s1 else changePadLevel duty s1

/-! ## Temperatures handed on (R135) -/

/-- A held value and its degraded mark at a handing-on (R135). -/
def HeldTemp.take (h : HeldTemp) (slot : Slot) : HeldTemp :=
  match slot.reading, slot.fault with
  | some v, false => ⟨some v.2, false⟩
  | _, _ => { h with degraded := true }

/-- The temperature in use (R135). -/
def formTemp (c : Cwc) : TempInUse :=
  match c.tFresh.good, c.tFresh.value with
  | true, some v => .fresh v
  | _, _ => match c.tOutside.good, c.tOutside.value with
    | true, some v => .outside v
    | _, _ => .noSource

/-- T_FRESH (R135). -/
def takeFreshTemp (slot : Slot) (s : State) : State :=
  { s with cwc := { s.cwc with tFresh := s.cwc.tFresh.take slot } }

/-- T_CABIN: the thermostat is judged (R135, R140). -/
def takeCabinTemp (slot : Slot) (s : State) : State :=
  judgeDemand { s with cwc := { s.cwc with tCabin := s.cwc.tCabin.take slot } }

/-- T_OUTSIDE: the temperature in use is formed, then the pad and the dump valve are judged (R135). -/
def takeOutsideTemp (slot : Slot) (s : State) : State :=
  let c := { s.cwc with tOutside := s.cwc.tOutside.take slot }
  judgeValve (judgePad { s with cwc := { c with temp := formTemp c } })

/-! ## Tanks -/

/-- A tank's level record. -/
def Cwc.tank (c : Cwc) : Tank → TankRec
  | .fresh => c.fresh
  | .grey => c.grey

/-- A tank's level record replaced. -/
def setTank (t : Tank) (r : TankRec) (s : State) : State :=
  match t with
  | .fresh => { s with cwc := { s.cwc with fresh := r } }
  | .grey => { s with cwc := { s.cwc with grey := r } }

/-- A tank's table (R137). -/
def Settings.tankTable (st : Settings) : Tank → List (Nat × Nat)
  | .fresh => st.freshTable
  | .grey => st.greyTable

/-- A code joins the median buffer; the oldest leaves first if five are held, and the level is formed (R151, R152). -/
def TankRec.join (r : TankRec) (table : List (Nat × Nat)) (code : Nat) : TankRec :=
  let b := ringPush5 code r.buffer
  { r with buffer := b, level := some (tankLevel table (medianCode b)) }
where
  /-- The buffer of five. -/
  ringPush5 (x : Nat) (l : List Nat) : List Nat := (if l.length < 5 then l else l.drop 1) ++ [x]

/-- The fresh level is judged for the dry-run hold and TANK_LOW (R153). -/
def judgeFreshLevel (level : Nat) (s : State) : State :=
  if level < s.sto.live.freshLow then
    let s1 := setHold .dryRun true s
    if s1.cwc.freshLowArmed then
      let s2 := raise .tankLow 0 level allPorts s1
      { s2 with cwc := { s2.cwc with freshLowArmed := false } }
    else s1
  else if s.sto.live.freshLow + 3 ≤ level then
    let s1 := setHold .dryRun false s
    { s1 with cwc := { s1.cwc with freshLowArmed := true } }
  else s

/-- The fresh sender's fault is entered: the hold is cleared and TANK_LOW value 255 may be raised (R153). -/
def freshFaultSet (s : State) : State :=
  let s1 := setHold .dryRun false s
  if s1.cwc.faultArmed then
    let s2 := raise .tankLow 0 255 allPorts s1
    { s2 with cwc := { s2.cwc with faultArmed := false } }
  else s1

/-- The grey level is judged for GREY_FULL (R154). -/
def judgeGreyLevel (level : Nat) (s : State) : State :=
  if s.sto.live.greyFull ≤ level then
    if s.cwc.greyFullArmed then
      let s1 := raise .greyFull 1 level allPorts s
      { s1 with cwc := { s1.cwc with greyFullArmed := false } }
    else s
  else if level + 10 ≤ s.sto.live.greyFull then { s with cwc := { s.cwc with greyFullArmed := true } }
  else s

/-- The FAULT mark of a tank follows the slot, and its setting or clearing is judged for the fresh tank (R152, R153). -/
def tankFault (t : Tank) (fault : Bool) (s : State) : State :=
  let r := s.cwc.tank t
  if r.fault = fault then s
  else
    let s1 := setTank t { r with fault := fault } s
    match t, fault with
    | .grey, _ => s1
    | .fresh, true => freshFaultSet s1
    | .fresh, false => { s1 with cwc := { s1.cwc with faultArmed := true } }

/-- A new level is judged (R152). -/
def judgeLevel (t : Tank) (level : Nat) (s : State) : State :=
  match t with
  | .fresh => judgeFreshLevel level s
  | .grey => judgeGreyLevel level s

/-- A tank channel handed on (R152). -/
def takeTank (t : Tank) (slot : Slot) (s : State) : State :=
  let s1 := tankFault t slot.fault s
  if s1.cwc.freeze ∨ slot.fault then s1
  else match slot.reading with
    | none => s1
    | some v =>
      let r := (s1.cwc.tank t).join (s1.sto.live.tankTable t) v.2.toNat
      judgeLevel t (r.level.getD 0) (setTank t r s1)

/-- The freeze condition handed to CWC (R126, R152): its beginning freezes both records and empties the buffers, its end clears the marks. -/
def handFreeze (s : State) : State :=
  let f := s.dlu.frozen
  if s.cwc.freeze = f then s
  else if f then
    { s with cwc := { s.cwc with
        freeze := true
        fresh := { s.cwc.fresh with frozen := true, buffer := [] }
        grey := { s.cwc.grey with frozen := true, buffer := [] } } }
  else
    { s with cwc := { s.cwc with
        freeze := false
        fresh := { s.cwc.fresh with frozen := false }
        grey := { s.cwc.grey with frozen := false } } }

/-- A PUT_SETTING of the fresh low judges the level held (R153). -/
def applyFreshLow (s : State) : State :=
  match s.cwc.fresh.level, s.cwc.fresh.fault with
  | some l, false => judgeFreshLevel l s
  | _, _ => s

/-- A change of the tier setting of HEAT in FALLBACK looks at the new tier's condition (R143). -/
def applyHeatTier (s : State) : State := if s.heatCondition = .isOpen then endFallback s else s

end Sys2Proof.Machine
end

