-- ==== Sys2Proof/Machine/Vehicle.lean ====
section
/-! DEFINITION. The Drive-lock and vehicle unit (07): taking, self-taking and releasing the lock (R129, R132, R133), axes that stop being stowed (R131), the vehicle record (R122 to R125); and the travel setting of MOT (R95), whose change an axis's stowed state follows. -/

namespace Sys2Proof.Machine

/-! ## The lock -/

/-- DLU gives an axis a lock retraction and sets its lock-plan mark (R129 step (3)). MOT has acted on what the request brought before the next
axis gets its own (R54, log 14). -/
def lockRetract (a : Axis) (s : State) : State := setMark a true (settle (retract a .lock s))

/-- An axis that is not both stowed and IDLE gets a lock retraction (R129 step (3)). -/
def lockRetractIfOut (s : State) (a : Axis) : State := if (s.axis a).stowedIdle then s else lockRetract a s

/-- The lock is taken (R129). -/
def takeLock (s : State) : State :=
  if s.bothIn then handFreeze (setLock .held s)
  else handFreeze ([Axis.step, .awning].foldl lockRetractIfOut (lockStopsAxes (setLock .pending s)))

/-- RELEASE in PENDING or HELD (R132). -/
def releaseLock (s : State) : State :=
  handFreeze { s with dlu := { s.dlu with lock := .free, lockFault := false, stepMark := false, awningMark := false } }

/-- The number of a lock state (11 section 11.5). -/
def LockState.code : LockState → Nat
  | .free => 0
  | .pending => 1
  | .held => 2

/-- The lock takes itself (R133). -/
def selfLock (s : State) : State :=
  let s1 := takeLock s
  raise .lockSelf 0 s1.dlu.lock.code [.chassis, .panel] s1

/-- DLU takes the report that an axis stopped being stowed (R131). -/
def unstowed (a : Axis) (s : State) : State :=
  match s.dlu.lock with
  | .free => s
  | .pending => if s.dlu.planMark a then s else lockRetract a s
  | .held => if s.dlu.lockFault then s else lockRetract a (setLock .pending s)

/-- MOT reports an axis that stopped being stowed by a change, with no lock retraction running on it (R131). -/
def reportUnstowed (a : Axis) (before : AxisRec) (s : State) : State :=
  if before.stowed ∧ ¬ (s.axis a).stowed ∧ ¬ (s.axis a).runsSource .lock then unstowed a s else s

/-- A hall pulse (R102, R104, R131). -/
def hallPulseTaken (a : Axis) (gap : Nat) (s : State) : State :=
  let r := s.axis a
  judgePosition a (reportUnstowed a r (s.setAxis a (r.pulse (s.sto.live.travel a) gap)))

/-! ## The vehicle record -/

/-- The engine in force changes and is handed to LDC; an equal one hands nothing on (R125). -/
def setEngine (running : Bool) (s : State) : State :=
  if s.dlu.engineInForce = running then s
  else handEngine running { s with dlu := { s.dlu with engineInForce := running } }

/-- A taken VEHICLE report, in the steps of R123: MOT has acted on the reports of steps (4) and (5) before the next step (R54, log 14). -/
def takeReportOfVehicle (ignition engine moving : Bool) (s : State) : State :=
  let wasOn := s.dlu.ignitionOn
  let wasStale := s.dlu.stale
  let s1 := { s with dlu := { s.dlu with
    ignition := ignition, engine := engine, moving := moving, age := some 0, staleTimer := ignition, stale := false } }
  let s2 := if wasStale then raise .vehicleStale 0 0 allPorts s1 else s1
  let s3 := setEngine engine s2
  let s4 := if ¬ wasOn ∧ ignition then settle (ignitionTurnsOn s3) else s3
  let s5 := if moving ∧ s4.dlu.lock = .free then selfLock s4 else s4
  handFreeze s5

/-- The staleness timer expires (R124). -/
def becomeStale (s : State) : State :=
  if s.dlu.staleTimer then
    ignitionTurnsOn (raise .vehicleStale 0 1 allPorts { s with dlu := { s.dlu with stale := true, staleTimer := false } })
  else s

/-- A START_V value handed on to DLU: while the record is stale the engine is inferred (R125). -/
def inferEngine (mv : Int) (s : State) : State := if s.dlu.stale then setEngine (decide (13400 ≤ mv)) s else s

/-- The age counts up to 65,535 once there has been a report (R122). -/
def ageTick (s : State) : State := { s with dlu := { s.dlu with age := s.dlu.age.map (bumpTo 65535) } }

/-! ## A new travel -/

/-- A segment of a plan that stands under a new travel (R95). -/
def Segment.underTravel (travel : Nat) (g : Segment) : Segment :=
  if g.toEnd then (if g.dir = .outward then outwardEnd travel else g)
  else if travel ≤ g.target then outwardEnd travel
  else g

/-- A plan that stands under a new travel (R95). -/
def Plan.underTravel (travel : Nat) (p : Plan) : Plan :=
  { p with first := p.first.underTravel travel, second := p.second.map (Segment.underTravel travel) }

/-- A new travel is taken (R95): status UNKNOWN, the position clamped, the plan's segments; and DLU hears of an axis that stops being
stowed (R131). The drive of a RUNNING axis, its count direction and a back-off's target stay (log 48). -/
def applyTravel (a : Axis) (s : State) : State :=
  let travel := s.sto.live.travel a
  let r := s.axis a
  reportUnstowed a r (s.setAxis a { r with
    known := false, position := min r.position (travel + 32), plan := r.plan.map (Plan.underTravel travel) })

end Sys2Proof.Machine
end

