-- ==== Sys2Proof/Machine/Scan.lean ====
section
/-! DEFINITION. The Scan Converter (01): triggers (R5, R8), the sharing of the converter (R4), completions (R6, R9), the reference check (R10, R11), plausibility (R13) and the handing-on of slots to their consumers (R1). -/

namespace Sys2Proof.Machine

/-- The choice of the next conversion (R4). -/
def Scv.choose (c : Scv) : Scv :=
  { c with inFlight := if c.fastGroup.isSome then some .fast else if c.slowScan.isSome then some .slow else none }

/-- A trigger that starts a group while the converter is idle makes the choice (R4). -/
def Scv.chooseIfIdle (c : Scv) : Scv := if c.inFlight.isNone then c.choose else c

/-- A fast-trigger expiry (R5). -/
def Scv.fastTrigger (c : Scv) : Scv :=
  match c.fastGroup with
  | none => Scv.chooseIfIdle { c with fastGroup := some 0 }
  | some _ => { c with missed := bumpTo 255 c.missed }

/-- A slow-trigger expiry (R8). -/
def Scv.slowTrigger (c : Scv) : Scv :=
  match c.slowScan with
  | none => Scv.chooseIfIdle { c with slowScan := some 0, buffer := [] }
  | some _ => { c with overrun := true }

/-- The corrected difference d of a HOUSE_I code (R3). -/
def correctedDifference (z : Int) (code : BitVec 12) : Int := clampInt (-2048) 2047 ((code.toNat : Int) - 2048 - z)

/-- The temperature of a code, clamped to -400 to +850 (R1). -/
def temperatureOf (code : BitVec 12) : Int := clampInt (-400) 850 ((code.toNat : Int) - 500)

/-- The value handed on for a channel (R1). -/
def channelValue (z : Int) (ch : Fin 11) (code : BitVec 12) : Int :=
  if ch = 0 then correctedDifference z code
  else if ch = 2 ∨ ch = 5 ∨ ch = 6 then code.toNat
  else if ch = 1 ∨ ch = 3 ∨ ch = 4 then code.toNat * 5
  else temperatureOf code

/-- A slot replaced. -/
def setSlot (ch : Fin 11) (x : Slot) (s : State) : State :=
  { s with scv := { s.scv with slots := s.scv.slots.set ch x } }

/-- A fast result in its slot, marked suspect while a reference fault stands (R6 steps (1), (2), R12). -/
def writeFast (ch : Fin 11) (code : BitVec 12) (s : State) : State :=
  setSlot ch { s.scv.slots[ch] with
    reading := some (code, channelValue s.sto.live.zeroOffset ch code), suspect := s.scv.refFault } s

/-! ## Fast conversions -/

/-- HOUSE_I: the current-saturated mark, the missed count carried and cleared, the sample to CHG (R3, R7, R19). -/
def handHouseI (code : BitVec 12) (s : State) : State :=
  let m := s.scv.missed
  let saturated := code = 0 ∨ code = 4095
  takeSample (channelValue s.sto.live.zeroOffset 0 code) s.scv.refFault m
    { s with scv := { s.scv with missed := 0, saturated := s.scv.saturated || decide saturated } }

/-- A fast slot handed to its consumer (R1, R6 step (3)). -/
def handFast (ch : Fin 4) (code : BitVec 12) (s : State) : State :=
  if ch = 0 then handHouseI code s
  else if ch = 1 then takeHouseV (code.toNat * 5) s
  else if ch = 2 then takeMotorI code.toNat s
  else takeSupplyV (code.toNat * 5) s

/-- The fast group after the completion of a channel (R4, R5). -/
def afterFast (ch : Fin 4) : Option (Fin 4) := if ch = 3 then none else some (ch + 1)

/-- A fast-group conversion completes (R6); the converter then takes what R4 chooses. -/
def fastCompletes (code : BitVec 12) (s : State) : State :=
  match s.scv.inFlight, s.scv.fastGroup with
  | some .fast, some ch =>
    let s1 := handFast ch code (writeFast (ch.castLE (by decide)) code s)
    { s1 with scv := Scv.choose { s1.scv with fastGroup := afterFast ch } }
  | _, _ => s

/-! ## Slow conversions -/

/-- A slow conversion of one of the first seven entries completes: its code is stored (R9). -/
def slowCompletes (code : BitVec 12) (s : State) : State :=
  match s.scv.inFlight, s.scv.slowScan with
  | some .slow, some k =>
    if k = 7 then s
    else { s with scv := Scv.choose { s.scv with slowScan := some (k + 1), buffer := s.scv.buffer ++ [code] } }
  | _, _ => s

/-- A code fails the plausibility check (R13). -/
def implausible (code : BitVec 12) : Bool := decide (code.toNat < 60) || decide (4035 < code.toNat)

/-- A judged channel's slot and notice (R13). -/
def writeJudged (ch : Fin 11) (code : BitVec 12) (s : State) : State :=
  let x := s.scv.slots[ch]
  if implausible code then
    if x.fault then s
    else raise .sensorFault ch.val 1 allPorts (setSlot ch { x with fault := true } s)
  else
    let s1 := setSlot ch { x with reading := some (code, channelValue s.sto.live.zeroOffset ch code), fault := false } s
    if x.fault then raise .sensorFault ch.val 0 allPorts s1 else s1

/-- START_V always takes its code (R10 step (2)). -/
def writeStart (code : BitVec 12) (s : State) : State :=
  setSlot 4 { s.scv.slots[(4 : Fin 11)] with reading := some (code, channelValue s.sto.live.zeroOffset 4 code) } s

/-- The slots written from the codes of the scan buffer, in list order (R10 step (2)). -/
def writeSlow : List (Fin 11) → List (BitVec 12) → State → State
  | ch :: chs, code :: codes, s => writeSlow chs codes (if ch = 4 then writeStart code s else writeJudged ch code s)
  | _, _, s => s

/-- The slow channels in list order (R9). -/
def slowChannels : List (Fin 11) := [4, 5, 6, 7, 8, 9, 10]

/-- A slow slot handed to its consumers (R1; T_OUTSIDE goes to CWC and then to CHG, log 33). What one slot brings at LDC
and at MOT has come to its end before the next slot is handed on (log 14). -/
def handSlow (s : State) (ch : Fin 11) : State :=
  let x := s.scv.slots[ch]
  if ch = 4 then (match x.reading with
    | some v => inferEngine v.2 s
    | none => s)
  else if ch = 5 then takeTank .fresh x s
  else if ch = 6 then takeTank .grey x s
  else if ch = 7 then takeFreshTemp x s
  else if ch = 8 then takeCabinTemp x s
  else if ch = 9 then trackOutside x (takeOutsideTemp x s)
  else takeBatteryTemp x s

/-- A passing result (R10). -/
def refPasses (result : BitVec 13) : Bool := 4014 ≤ result.toNat && result.toNat ≤ 4178

/-- A passing REFCHK: the fault cleared, the slots written, the slots handed on (R10). -/
def refchkPass (s : State) : State :=
  let s1 := if s.scv.refFault then raise .referenceFault 0 0 allPorts { s with scv := { s.scv with refFault := false } } else s
  slowChannels.foldl handSlow (writeSlow slowChannels s1.scv.buffer s1)

/-- A failing REFCHK: every code of the scan buffer is discarded and a reference fault stands (R11). -/
def refchkFail (s : State) : State :=
  let s1 := { s with scv := { s.scv with buffer := [], refFault := true } }
  if s.scv.refFault then s1 else raise .referenceFault 0 1 allPorts s1

/-- The first slow scan after a reset makes the part READY (R16, R175 step (4)). -/
def reportScan (s : State) : State :=
  if s.sto.phase = .scanning then { s with sto := { s.sto with phase := .ready } } else s

/-- REFCHK completes (R10, R11): the slow scan ends and R4 settles the converter. -/
def refchkCompletes (result : BitVec 13) (s : State) : State :=
  match s.scv.inFlight, s.scv.slowScan with
  | some .slow, some k =>
    if k = 7 then
      let s1 := if refPasses result then refchkPass s else refchkFail s
      reportScan { s1 with scv := Scv.choose { s1.scv with slowScan := none } }
    else s
  | _, _ => s

/-- A fast-trigger expiry reaches SCV while its timers run (R5, R16). -/
def fastTriggerTaken (s : State) : State := if s.scv.timers then { s with scv := s.scv.fastTrigger } else s

/-- A slow-trigger expiry reaches SCV while its timers run (R8, R16). -/
def slowTriggerTaken (s : State) : State := if s.scv.timers then { s with scv := s.scv.slowTrigger } else s

end Sys2Proof.Machine
end

