-- ==== Sys2Proof/Machine/Startup.lean ====
section
/-! DEFINITION. Resets (R174, R175 step (1)) and start-up steps (2) and (3) (R175, R176, R16, R17, R136). -/

namespace Sys2Proof.Machine

/-- What a reset leaves of the stored record: a write under way is ended unfinished and spoils it (R174). -/
def Sto.recordAfterReset (o : Sto) : StoredRecord :=
  match o.writing with
  | none => o.stored
  | some _ => .spoiled

/-- A reset with its cause (R175 step (1)): every block at its state after reset. The stored record stays, the input pins are what the
outside holds them at, and the queue of commands and the index of free values are the model's own. -/
def resetWith (cause : ResetCause) (s : State) : State :=
  { State.reset with
    mot := { Mot.reset with stopn := s.mot.stopn, entryOpen := s.mot.entryOpen }
    sto := Sto.reset s.sto.recordAfterReset cause
    freeIndex := s.freeIndex
    pending := s.pending }

/-- STO's own part of step (2): live values, image and record state (R176). -/
def loadStore (r : Option LoadedRecord) (s : State) : State :=
  let st := (r.map LoadedRecord.settings).getD .default
  let sc := (r.map LoadedRecord.scenes).getD (Vector.replicate 8 [])
  { s with
    sto := { s.sto with live := st, image := st, imageScenes := sc, recordGood := r.isSome }
    ldc := { s.ldc with scenes := sc } }

/-- The heating part of step (2): set mode, effective mode, comfort target and stored dump state (R136, R176). -/
def loadClimate (r : Option LoadedRecord) (s : State) : State :=
  let m := (r.map LoadedRecord.setMode).getD .frost
  { s with cwc := { s.cwc with
      setMode := m, effMode := m, target := (r.map LoadedRecord.target).getD 200
      storedClosed := (r.map LoadedRecord.closed).getD false } }

/-- CHG's part of step (2): the rest state, and the account from the checkpoint, clamped to Cap (R17, R176). -/
def loadCharge (r : Option LoadedRecord) (s : State) : State :=
  let s1 := setRest (if s.sto.live.ocvEnable then .timing 0 else .idle) s
  match r with
  | none => setSynced false s1
  | some q => setAccount (setSynced q.synced
      { s1 with chg := { s1.chg with content := min q.content s1.sto.live.cap, residue := 0 } })

/-- Step (2) of start-up (R175): the record is read and its values are handed to their blocks: CHG, LDC (which computes B by R64), CWC. -/
def loadRecord (s : State) : State :=
  let r := readRecord s.sto.stored
  loadClimate r (budgetCall (loadCharge r (loadStore r s)))

/-- Step (3): both timers start, which is their first expiry; which is taken first is the command's operand (R16, R4, log 6). -/
def startTimers (fastFirst : Bool) (s : State) : State :=
  let c := { s.scv with timers := true }
  { s with
    scv := if fastFirst then c.fastTrigger.slowTrigger else c.slowTrigger.fastTrigger
    sto := { s.sto with phase := .scanning } }

/-- The read of the stored record completes (R175 steps (2) and (3)). -/
def storeReadCompletes (fastFirst : Bool) (s : State) : State :=
  if s.sto.phase = .reading then startTimers fastFirst (loadRecord s) else s

end Sys2Proof.Machine
end

