-- ==== Sys2Proof/Machine/Answers.lean ====
section
/-! DEFINITION. The answer records (11, R179): IDENT, energy, history, loads, scenes, motion, lock block, climate block, tanks, settings, notices. The encodings that no table of 11 gives are built by R179 (log 26). -/

namespace Sys2Proof.Machine

/-- A bit of a flag byte at its place. -/
def flag (b : Bool) (place : Nat) : Nat := if b then 2 ^ place else 0

/-- Two-byte fields of naturals (R179). -/
def le2n (x : Nat) : List Byte := le2 (x : Int)

/-! ## STO, ports -/

/-- The number of a reset cause (11 section 11.2). -/
def ResetCause.code : ResetCause → Nat
  | .powerOn => 0
  | .resetn => 1

/-- The IDENT answer, 12 bytes (R178, R179). -/
def identRecord (s : State) : List Byte :=
  le2n Config.partCode ++ [byteOf Config.revision, byteOf s.sto.cause.code, markByte s.isReady, markByte (!s.sto.recordGood),
    markByte s.sto.writing.isSome, markByte s.sto.heldCheckpoint] ++ le2n s.sto.writeCount.toNat ++ le2n s.noticeClock.toNat

/-- A notice record, six bytes (R179). -/
def noticeBytes (q : Notice) : List Byte :=
  [byteOf q.kind.code, q.subject] ++ le2n q.value.toNat ++ le2n q.stamp.toNat

/-- The FETCH answer (R169, R179). -/
def fetchRecord (taken left : List Notice) (overflow : Bool) : List Byte :=
  [byteOf taken.length, byteOf left.length, markByte overflow] ++ taken.flatMap noticeBytes

/-! ## Energy -/

/-- The number of a rest state (11 section 11.3). -/
def Rest.code : Rest → Nat
  | .idle => 0
  | .timing _ => 1
  | .averaging _ _ _ => 2

/-- The value of a channel in the energy answer: 0 before the first (R41). -/
def State.channel (s : State) (ch : Fin 11) : Int := (s.slotValue ch).getD 0

/-- A figure of the charge account: 0 while the account is unset (R41). -/
def State.figure (s : State) (n : Nat) : Nat := if s.chg.accountSet then n else 0

/-- Byte 24 of the energy answer (11 section 11.3). -/
def energyFlags (s : State) : Nat :=
  flag s.chg.synced 0 + flag s.chg.accountSet 1 + 4 * s.chg.alarmLevel + flag s.chg.supply 4 + 32 * s.chg.rest.code
    + flag s.chg.fullArmed 7

/-- Byte 25 of the energy answer (11 section 11.3). -/
def energyMarks (s : State) : Nat :=
  flag (s.slotValue 0).isSome 0 + flag (s.slotValue 1).isSome 1 + flag (s.slotValue 3).isSome 2 + flag (s.slotValue 4).isSome 3
    + flag (s.slotValue 10).isSome 4 + flag s.scv.refFault 5 + flag s.scv.overrun 6 + flag s.scv.saturated 7

/-- The energy status answer, 26 bytes (R41, 11 section 11.3). The temperature in use is 250 before the first T_BATT value (R23), with its mark
clear (log 39). -/
def energyRecord (s : State) : List Byte :=
  le4 (s.figure s.chg.content) ++ le4 (s.figure s.usable) ++ le2n (s.figure s.chg.soc) ++ le2 (s.channel 0)
    ++ le2 (s.channel 1) ++ le2 (s.channel 3) ++ le2 (s.channel 4) ++ le2 s.tempForFactor ++ le2n s.factorInUse
    ++ le2n s.chg.ttf ++ [byteOf (energyFlags s), byteOf (energyMarks s)]

/-- An hour entry, eight bytes (R179). -/
def hourBytes (e : HourEntry) : List Byte := le4 e.net ++ le2Unsigned e.lowSoc ++ le2Signed e.lowOutside

/-- A GET_HISTORY answer (R28, R179). -/
def historyRecord (selector start : Byte) (seq : Word16) (present : Nat) (entries : List (List Byte)) : List Byte :=
  [selector] ++ le2n seq.toNat ++ [byteOf present, start, byteOf entries.length] ++ entries.flatten

/-- The page of a ring from a start index (R28). -/
def historyPage (s : State) (selector start : Byte) : List Byte :=
  if selector = 0 then
    historyRecord selector start s.chg.minuteSeq s.chg.minuteRing.length (((s.chg.minuteRing.drop start.toNat).take 12).map le4)
  else
    historyRecord selector start s.chg.hourSeq s.chg.hourRing.length (((s.chg.hourRing.drop start.toNat).take 6).map hourBytes)

/-- The SET_CHARGE answer: the resulting C and SoC (R36). -/
def chargeRecord (s : State) : List Byte := le4 s.chg.content ++ le2n s.chg.soc

/-! ## Loads -/

/-- The grant order and the counted current of a record, 0 where absent (11 section 11.4). -/
def grantFields (l : Load) : Nat × Nat :=
  match l.phase with
  | .granted o c => (o.toNat, c)
  | _ => (0, 0)

/-- The gate reason of a record, 0 where absent. -/
def gateField (l : Load) : Nat :=
  match l.phase with
  | .gated r => r.code
  | _ => 0

/-- The restoring mark of a record. -/
def restoringField (l : Load) : Bool :=
  match l.phase with
  | .pending r => r
  | _ => false

/-- Auto-off remaining in whole minutes, rounded up; 0 when none (R52). -/
def autoOffField (l : Load) : Nat := ((l.autoOff.getD 0) + 59) / 60

/-- Offsets 2 to 15 of the load record answer for a record that is not OFF. -/
def liveFields (s : State) (n : Fin 14) (l : Load) : List Byte :=
  [byteOf l.owner.code, byteOf l.level, byteOf l.tier.code] ++ le2n l.stamp.toNat ++ le2n (grantFields l).1
    ++ [byteOf (grantFields l).2, byteOf (gateField l), byteOf (autoOffField l), byteOf (s.pendingPosition n),
      byteOf (if l.isGranted then s.driveLevel n l else 0), byteOf s.out.level[n],
      byteOf (flag (s.capped n l.tier) 0 + flag (restoringField l) 1)]

/-- The fields of a record in OFF: 0, but for the output level (11 section 11.4). -/
def offFields (s : State) (n : Fin 14) : List Byte := List.replicate 12 0 ++ [byteOf s.out.level[n], 0]

/-- The load record answer, 20 bytes (11 section 11.4). -/
def loadRecordBytes (s : State) (n : Fin 14) : List Byte :=
  [byteOf n.val, byteOf (loadStateCode (s.load n))]
    ++ (match s.load n with
      | some l => liveFields s n l
      | none => offFields s n)
    ++ [byteOf s.sto.live.tier[n].code, byteOf s.sto.live.declared[n], byteOf (s.sto.live.dimCapOf n),
      byteOf (s.sto.live.fadeRateOf n)]

/-- The two bytes of a record in the load summary (11 section 11.4). -/
def summaryBytes (s : State) (n : Fin 14) : List Byte :=
  match s.load n with
  | none => [0, 0]
  | some l => [byteOf (loadStateCode (some l) + 4 * l.owner.code + 32 * l.tier.code), byteOf l.level]

/-- A tier is reported closed when its condition is not OPEN (R70). -/
def reportedClosed (d : Ldc) (t : Tier) : Bool := tierCondition d t != .isOpen

/-- The load summary answer, 33 bytes (R62, 11 section 11.4). -/
def summaryRecord (s : State) : List Byte :=
  allRecords.flatMap (summaryBytes s) ++ le2n s.ldc.budget ++ le2n s.grantedSum
    ++ [byteOf (flag (reportedClosed s.ldc .essential) 0 + flag (reportedClosed s.ldc .comfort) 1
      + flag (reportedClosed s.ldc .leisure) 2)]

/-- The GET_SCENE answer (R61, R179). -/
def sceneRecord (l : List SceneEntry) : List Byte := l.flatMap (fun e => le2n e.output.val ++ le2n e.level.toNat)

/-! ## Motion and the lock -/

/-- The number of an axis state (R94). -/
def AxisState.code : AxisState → Nat
  | .idle => 0
  | .waitMotor => 1
  | .waitGrant => 2
  | .running => 3
  | .standby => 4
  | .stopping => 5
  | .fault => 6

/-- The number of a source (11 section 11.5). -/
def Source.code : Source → Nat
  | .panel => 1
  | .chassis => 2
  | .gateway => 3
  | .entry => 4
  | .wind => 5
  | .lock => 6

/-- The number of a bridge state (11 section 11.5). -/
def BridgeState.code : BridgeState → Nat
  | .coast => 0
  | .driveOut => 1
  | .driveIn => 2
  | .brake => 3

/-- The segment bits of a plan, from a place (11 section 11.5). -/
def segmentBits (g : Option Segment) (place : Nat) : Nat :=
  match g with
  | none => 0
  | some g => flag (g.dir == .outward) place + flag (!g.toEnd) (place + 1)

/-- Byte 5 of the axis record answer. -/
def planBits : Option Plan → Nat
  | none => 0
  | some p => (if p.second.isSome then 2 else 1) + flag p.onSecond 2 + segmentBits (some p.first) 3 + segmentBits p.second 5

/-- The target of a segment, 0xFFFF where the segment is absent (R179, log 52). -/
def targetField (g : Option Segment) : List Byte := le2Unsigned (g.map Segment.target)

/-- Bytes 3 and 4 of the axis record answer. -/
def axisFlags (r : AxisRec) : List Byte :=
  [byteOf (flag r.known 0 + flag r.stowed 1 + flag (r.mode == .jog) 2 + 8 * (r.faultKind.map MotionFault.code).getD 0),
   byteOf ((r.source.map Source.code).getD 0 + 16 * (if r.jogPort.isSome then 1 else 0))]

/-- The axis record answer, 15 bytes (11 section 11.5). -/
def axisBytes (s : State) (a : Axis) : List Byte :=
  let r := s.axis a
  let b := s.bridge a
  [byteOf r.state.code] ++ le2n r.position ++ axisFlags r ++ [byteOf (planBits r.plan)]
    ++ targetField (r.plan.map Plan.first) ++ targetField (r.plan.bind Plan.second) ++ le2n r.pulsePeriod
    ++ [byteOf (b.requested.code + 4 * b.effective.code), byteOf b.duty, byteOf (loadStateCode (s.load (axisRecord a)))]

/-- The lock block, four bytes (R134, 11 section 11.5). -/
def lockBlock (d : Dlu) : List Byte :=
  [byteOf (d.lock.code + flag d.age.isSome 2),
   byteOf (flag d.lockFault 0 + flag d.stepMark 1 + flag d.awningMark 2 + flag d.ignition 3 + flag d.engine 4 + flag d.moving 5
     + flag d.stale 6 + flag d.engineInForce 7)] ++ le2n (d.age.getD 0)

/-- The sense holder's number (11 section 11.5). -/
def senseCode : Option Axis → Nat
  | none => 0
  | some .step => 1
  | some .awning => 2

/-- The GET_MOTION answer, 38 bytes (R121, 11 section 11.5). -/
def motionRecord (s : State) : List Byte :=
  axisBytes s .step ++ axisBytes s .awning
    ++ [byteOf (senseCode s.mot.sense), byteOf (flag s.mot.windHold 0 + flag s.mot.prevAbove 1)] ++ le2n s.mot.windCount
    ++ lockBlock s.dlu

/-! ## Climate and tanks -/

/-- The number of a dump state (R145). -/
def DumpState.code : DumpState → Nat
  | .startup => 0
  | .closing => 1
  | .closed => 2
  | .dumped => 3

/-- The source of the temperature in use: FRESH 0, OUTSIDE 1, NONE 2 (R135); NONE while it is not formed yet (R136, log 55). -/
def TempInUse.code : TempInUse → Nat
  | .fresh _ => 0
  | .outside _ => 1
  | _ => 2

/-- A held temperature with its degraded mark after it; that each mark follows its own value is the model's choice (log 55). -/
def heldBytes (h : HeldTemp) : List Byte := le2Signed h.value ++ [markByte h.degraded]

/-- The climate block (R155, R179; log 26). The demand is coded as a mark, a stopped minimum-off timer as 0, and the stored dump state by R145's
numbers (log 55). -/
def climateBlock (s : State) : List Byte :=
  let c := s.cwc
  [byteOf c.setMode.code, byteOf c.effMode.code] ++ le2 c.target ++ le2Signed c.effectiveTarget ++ [markByte c.demand]
    ++ le2n (c.minOff.getD 0) ++ heldBytes c.tCabin ++ heldBytes c.tFresh ++ heldBytes c.tOutside
    ++ le2Signed c.temp.value ++ [byteOf c.temp.code] ++ le2n c.padDuty
    ++ [byteOf c.dump.code, byteOf (if c.storedClosed then DumpState.code .closed else DumpState.code .dumped)]
    ++ le2 s.sto.live.dumpThreshold
    ++ [byteOf (loadStateCode (s.load outHeat)), byteOf (loadStateCode (s.load outPad)), byteOf (loadStateCode (s.load outDump)),
      markByte s.ldc.dryRunHold, markByte s.ldc.dumpedHold]

/-- A tank's items (R155). -/
def tankBytes (r : TankRec) : List Byte :=
  le2Unsigned r.level ++ [markByte r.frozen, markByte r.fault] ++ le2n r.buffer.length

/-- The GET_TANKS answer (R155, R179; log 26). The freeze condition is coded as a mark (log 55). -/
def tanksRecord (s : State) : List Byte :=
  tankBytes s.cwc.fresh ++ tankBytes s.cwc.grey
    ++ [markByte s.ldc.dryRunHold, markByte s.cwc.freeze, markByte s.cwc.freshLowArmed, markByte s.cwc.faultArmed,
      markByte s.cwc.greyFullArmed]

/-! ## Settings -/

/-- The settings answer: the id, the live value and the image value; for the OCV table one byte in its place (R171, R172). -/
def settingRecord (s : State) (id : Byte) (i : SettingId) : List Byte :=
  [id] ++ settingBytes s.sto.live i
    ++ (if i = .ocvTable then [markByte (s.sto.live.get i != s.sto.image.get i)] else settingBytes s.sto.image i)

end Sys2Proof.Machine
end

