-- ==== Sys2Proof/Machine/Requests.lean ====
section
/-! DEFINITION. The request kinds of the catalogue, each judged and carried out by its rule. A handler takes the port, the payload and the state, and gives the state after the event, with MOT's reactions to it, and the reply formed from it (R161, R162). -/

namespace Sys2Proof.Machine

/-- What carries out a request kind. -/
abbrev Handler := Port → List Byte → State → State × Reply

/-- A refusal changes nothing (R164). -/
def refuse (s : State) (st : Status) : State × Reply := (s, .refuse st)

/-- A request carried out: MOT acts on the reports of its last event at LDC (R54, log 14), and the answer is formed after it (R161). -/
def carryOut (s : State) (st : State → Status) (record : State → List Byte) : State × Reply :=
  let s1 := settle s
  (s1, ⟨st s1, record s1⟩)

/-- A SET_LOAD carried out: the answer is formed when the admission of its request has ended (R51), and MOT acts on the reports after that (log 14). -/
def carryOutLoad (s : State) (st : State → Status) (record : State → List Byte) : State × Reply := (settle s, ⟨st s, record s⟩)

/-- A request that only reads (R162). -/
def readOut (s : State) (record : List Byte) : State × Reply := (s, ⟨.ok, record⟩)

/-! ## IDENT, GET_ENERGY, FETCH -/

/-- IDENT (R178). -/
def askIdent : Handler := fun _ pl s => if pl ≠ [] then refuse s .badLength else readOut s (identRecord s)

/-- The marks that a GET_ENERGY answer reports are cleared (R14). -/
def clearMarks (s : State) : State := { s with scv := { s.scv with overrun := false, saturated := false } }

/-- GET_ENERGY (R41). -/
def askEnergy : Handler := fun _ pl s =>
  if pl ≠ [] then refuse s .badLength else (clearMarks s, ⟨.ok, energyRecord s⟩)

/-- The queue after a FETCH (R169). -/
def PortState.afterFetch (q : PortState) : PortState := { q with queue := q.queue.drop 4, overflow := false }

/-- FETCH (R169). -/
def askFetch : Handler := fun p pl s =>
  let q := s.port p
  if pl ≠ [] then refuse s .badLength
  else (s.setPort p q.afterFetch, ⟨.ok, fetchRecord (q.queue.take 4) (q.queue.drop 4) q.overflow⟩)

/-! ## Charge -/

/-- GET_HISTORY (R28). -/
def askHistory : Handler := fun p pl s =>
  if p = .chassis then refuse s .noRight
  else if ¬ s.isReady then refuse s .notReady
  else match pl with
    | [selector, start] => if 1 < selector.toNat then refuse s .badTarget else readOut s (historyPage s selector start)
    | _ => refuse s .badLength

/-- SET_CHARGE (R36). -/
def askSetCharge : Handler := fun p pl s =>
  if p ≠ .panel then refuse s .noRight
  else if ¬ s.isReady then refuse s .notReady
  else if pl.length ≠ 2 then refuse s .badLength
  else
    let v := readLe pl
    carryOut (setCharge (min v 1000) s) (fun _ => if 1000 < v then .clamped else .ok) chargeRecord

/-! ## Loads -/

/-- The output of a number up to 13. -/
def outputOf (k : Nat) : Option (Fin 14) := if h : k < 14 then some ⟨k, h⟩ else none

/-- GET_LOAD (R62). -/
def askLoad : Handler := fun _ pl s =>
  if ¬ s.isReady then refuse s .notReady
  else match pl with
    | [o] => match outputOf o.toNat with
      | some n => readOut s (loadRecordBytes s n)
      | none => refuse s .badTarget
    | _ => refuse s .badLength

/-- GET_LOADS (R62). -/
def askLoads : Handler := fun _ pl s =>
  if ¬ s.isReady then refuse s .notReady
  else if pl ≠ [] then refuse s .badLength
  else readOut s (summaryRecord s)

/-- The owner that a master's port gives a record (R45). -/
def portOwner (p : Port) : Owner := if p = .gateway then .gateway else .panel

/-- The record belongs to a party that the port may not displace (R47 checks (5), (7)); the panel takes a gateway record over. -/
def ownedElsewhere (p : Port) (n : Fin 14) (s : State) : Bool :=
  internalRecord n || (match s.load n with
    | none => false
    | some l => !(l.owner == portOwner p || (p == .panel && l.owner == .gateway)))

/-- The requested level of a master's request: as sent for a DIMMED record, 255 for a SWITCHED one (R50). -/
def masterLevel (n : Fin 14) (level : Nat) : Nat := if loadKind n = .dimmed then level else 255

/-- A takeover begins (R49): LOAD_TAKEN to the gateway, its auto-off timer removed. -/
def beginTakeover (p : Port) (n : Fin 14) (s : State) : State :=
  match s.load n with
  | some l =>
    if p = .panel ∧ l.owner = .gateway then raise .loadTaken n.val 0 [.gateway] (s.setLoad n (some { l with autoOff := none })) else s
  | none => s

/-- The auto-off timer after a request with a level above 0, in seconds (R52). -/
def nextAutoOff (field : Option Nat) (running : Option Nat) : Option Nat :=
  match field with
  | none => running
  | some m => if m = 0 then none else some (min m 240 * 60)

/-- A taken SET_LOAD, or a taken entry of a scene (R48 to R50). -/
def takeSetLoad (p : Port) (n : Fin 14) (level : Nat) (autoOff : Option Nat) (s : State) : State :=
  let s1 := beginTakeover p n s
  if level = 0 then release n s1
  else requestLoad n (portOwner p) (masterLevel n level) s1.sto.live.tier[n]
    (nextAutoOff autoOff ((s1.load n).bind Load.autoOff)) s1

/-- The status of a taken SET_LOAD (R51); an auto-off sent with level 0 is ignored (R48). -/
def setLoadStatus (n : Fin 14) (level : Nat) (autoOff : Option Nat) (s : State) : Status :=
  if level ≠ 0 ∧ 240 < autoOff.getD 0 then .clamped
  else match s.load n with
    | none => .ok
    | some l => if l.isGranted then .ok else .queued

/-- SET_LOAD from its fields (R47 checks (4) to (8)). -/
def setLoadFields (p : Port) (output level : Nat) (autoOff : Option Nat) (s : State) : State × Reply :=
  match outputOf output with
  | none => refuse s .badTarget
  | some n =>
    if ownedElsewhere p n s then refuse s .owned
    else carryOutLoad (takeSetLoad p n level autoOff s) (setLoadStatus n level autoOff) (fun s => loadRecordBytes s n)

/-- SET_LOAD (R47). -/
def askSetLoad : Handler := fun p pl s =>
  if p = .chassis then refuse s .noRight
  else if ¬ s.isReady then refuse s .notReady
  else match pl with
    | [o, v] => setLoadFields p o.toNat v.toNat none s
    | [o, v, m] => setLoadFields p o.toNat v.toNat (some m.toNat) s
    | _ => refuse s .badLength

/-- The entries of a scene handled in list order (R60): the state, and for each entry whether it was taken. MOT's reactions to one entry
come before the next entry. -/
def runEntries (p : Port) : List SceneEntry → State → State × List Bool
  | [], s => (s, [])
  | e :: rest, s =>
    if ownedElsewhere p e.output s then
      let q := runEntries p rest s
      (q.1, false :: q.2)
    else
      let q := runEntries p rest (settle (takeSetLoad p e.output e.level.toNat none s))
      (q.1, true :: q.2)

/-- An entry's outcome: SKIPPED 0, OFF 1, GRANTED 2, QUEUED 3, GATED 4 (R60, R179). -/
def entryOutcome (s : State) (e : SceneEntry) (taken : Bool) : Nat :=
  if taken then
    match loadStateCode (s.load e.output) with
    | 0 => 1
    | 1 => 3
    | 2 => 2
    | _ => 4
  else 0

/-- The RUN_SCENE answer (R60, R179; log 26). -/
def runRecord (l : List SceneEntry) (taken : List Bool) (s : State) : List Byte :=
  le2n (taken.count true) ++ le2n (taken.count false)
    ++ (List.zip l taken).flatMap (fun q => le2n q.1.output.val ++ [byteOf (entryOutcome s q.1 q.2)])

/-- The scene of a number up to 7. -/
def sceneOf (k : Nat) : Option (Fin 8) := if h : k < 8 then some ⟨k, h⟩ else none

/-- RUN_SCENE (R60). -/
def askRunScene : Handler := fun p pl s =>
  if p = .chassis then refuse s .noRight
  else if ¬ s.isReady then refuse s .notReady
  else match pl with
    | [k] => match sceneOf k.toNat with
      | none => refuse s .badTarget
      | some n =>
        let l := s.ldc.scenes[n]
        let q := runEntries p l s
        carryOut q.1 (fun _ => .ok) (runRecord l q.2)
    | _ => refuse s .badLength

/-- The entries of a SET_SCENE payload; none where an output may not be requested by masters (R59). -/
def sceneEntries : List Byte → Option (List SceneEntry)
  | [] => some []
  | o :: v :: rest =>
    match outputOf o.toNat with
    | none => none
    | some n => if internalRecord n then none else (sceneEntries rest).map (fun l => ⟨n, v⟩ :: l)
  | _ => none

/-- A list that names no output twice (R59). -/
def distinctOutputs (l : List SceneEntry) : Bool := decide (l.map (fun e => e.output.val)).Nodup

/-- A scene's list replaced (R59). -/
def setScene (n : Fin 8) (l : List SceneEntry) (s : State) : State :=
  { s with ldc := { s.ldc with scenes := s.ldc.scenes.set n l } }

/-- SET_SCENE (R59). -/
def askSetScene : Handler := fun p pl s =>
  if p ≠ .panel then refuse s .noRight
  else if ¬ s.isReady then refuse s .notReady
  else match pl with
    | [] => refuse s .badLength
    | k :: body =>
      if body.length % 2 ≠ 0 ∨ 16 < body.length then refuse s .badLength
      else match sceneOf k.toNat, sceneEntries body with
        | some n, some l => if distinctOutputs l then carryOut (setScene n l s) (fun _ => .ok) (fun _ => []) else refuse s .badTarget
        | _, _ => refuse s .badTarget

/-- GET_SCENE (R61). -/
def askScene : Handler := fun _ pl s =>
  if ¬ s.isReady then refuse s .notReady
  else match pl with
    | [k] => match sceneOf k.toNat with
      | none => refuse s .badTarget
      | some n => readOut s (sceneRecord s.ldc.scenes[n])
    | _ => refuse s .badLength

/-! ## MOVE (R96 to R99) -/

/-- The seven commands of MOVE (11 section 11.1). -/
inductive MoveCmd where
  | extend | retract | goto | jogOut | jogIn | continue | stop
  deriving DecidableEq, Repr

/-- The command of a byte. -/
def MoveCmd.ofCode : Nat → Option MoveCmd
  | 0 => some .extend
  | 1 => some .retract
  | 2 => some .goto
  | 3 => some .jogOut
  | 4 => some .jogIn
  | 5 => some .continue
  | 6 => some .stop
  | _ => none

/-- The axis of a byte. -/
def axisOf : Nat → Option Axis
  | 0 => some .step
  | 1 => some .awning
  | _ => none

/-- A live jog of the requester's port: one that a CONTINUE keeps alive or resumes (R96 check 11, R113, R114; log 18). -/
def AxisRec.jogOf (r : AxisRec) (p : Port) : Bool :=
  r.mode == .jog && r.jogPort == some p && r.state != .idle && r.state != .fault

/-- Whether a command is outward, on the axis record as it stands (R97). -/
def outwardCmd (r : AxisRec) (c : MoveCmd) (target : Nat) : Bool :=
  match c with
  | .extend => true
  | .jogOut => true
  | .continue => r.mode == .jog && r.outwardSegment
  | .goto => (r.known && r.position < target) || (!r.known && 0 < target)
  | _ => false

/-- The source of a port (R98). -/
def portSource : Port → Source
  | .panel => .panel
  | .chassis => .chassis
  | .gateway => .gateway

/-- Checks 2 to 11 of R96, but for STOP, which is taken at check 4. -/
def moveRefusal (p : Port) (a : Axis) (c : MoveCmd) (target : Nat) (s : State) : Option Status :=
  let r := s.axis a
  if ¬ s.isReady then some .notReady
  else if p ≠ .panel ∧ c ≠ .retract ∧ c ≠ .stop then some .noRight
  else if c = .stop then none
  else if (r.state = .fault ∨ r.towardFault) ∧ c ≠ .retract then some .faulted
  else if s.dlu.lock ≠ .free ∧ c ≠ .retract then some .locked
  else if r.runsSource .lock ∧ c ≠ .retract then some .locked
  else if r.runsSource .wind ∧ c ≠ .retract then some .wind
  else if outwardCmd r c target ∧ s.mot.stopn then some .stopped
  else if outwardCmd r c target ∧ a = .awning ∧ s.mot.windHold then some .wind
  else if c = .continue ∧ ¬ r.jogOf p then some .badTarget
  else none

/-- A command that finds nothing to do on an IDLE axis (R98). -/
def nothingToDo (r : AxisRec) (c : MoveCmd) (target travel : Nat) : Bool :=
  r.state == .idle && (match c with
    | .retract => r.stowed
    | .extend => r.outAndIdle travel
    | .goto => r.known && r.position == target
    | _ => false)

/-- A jog is taken (R98), or handled as a CONTINUE when the axis already jogs in that direction for the port (R98, R113). A jog that is stopping,
with continuation HALT too, or in STANDBY counts as one (log 45). -/
def takeJog (p : Port) (a : Axis) (g : Segment) (s : State) : State :=
  let r := s.axis a
  if r.jogOf p ∧ (r.plan.map (fun q => q.current.dir)) = some g.dir then continueJog a s
  else mot (.plan a (Plan.single g) .jog (portSource p) (some p)) s

/-- A RETRACT of a master: a safety plan in force stays, except toward FAULT, where the RETRACT is held (R96, R108, log 21). -/
def takeRetract (p : Port) (a : Axis) (s : State) : State :=
  let r := s.axis a
  if ¬ r.towardFault ∧ (r.runsSource .lock ∨ r.runsSource .wind) then s else retract a (portSource p) s

/-- A taken MOVE (R98, R110, R113). -/
def takeMove (p : Port) (a : Axis) (c : MoveCmd) (target : Nat) (s : State) : State :=
  let r := s.axis a
  let travel := s.sto.live.travel a
  if nothingToDo r c target travel then s
  else match c with
    | .extend => extend a (portSource p) s
    | .retract => takeRetract p a s
    | .goto => mot (.plan a (planToward r.known r.position travel target) .auto (portSource p) none) s
    | .jogOut => takeJog p a (outwardEnd travel) s
    | .jogIn => takeJog p a inwardEnd s
    | .continue => continueJog a s
    | .stop => stopAxis a .stop s

/-- The length of a MOVE payload beyond its axis and command (R96). -/
def moveRest (c : Option MoveCmd) : Nat := if c = some .goto then 2 else 0

/-- A MOVE with its axis byte, command byte and the rest of its payload (R96). A GOTO whose target was clamped is answered CLAMPED also where it
finds nothing to do (log 44). -/
def moveFields (p : Port) (axis cmd : Byte) (rest : List Byte) (s : State) : State × Reply :=
  let c := MoveCmd.ofCode cmd.toNat
  if rest.length ≠ moveRest c then refuse s .badLength
  else match axisOf axis.toNat, c with
    | some a, some c =>
      if c = .goto ∧ a = .step then refuse s .badTarget
      else
        let sent := readLe rest
        let target := min sent (s.sto.live.travel a)
        match moveRefusal p a c target s with
        | some st => refuse s st
        | none => carryOut (takeMove p a c target s)
            (fun _ => if c = .goto ∧ target < sent then .clamped else .ok) (fun s => axisBytes s a)
    | _, _ => refuse s .badTarget

/-- MOVE (R96). -/
def askMove : Handler := fun p pl s =>
  match pl with
  | axis :: cmd :: rest => moveFields p axis cmd rest s
  | _ => refuse s .badLength

/-- GET_MOTION (R121). -/
def askMotion : Handler := fun _ pl s =>
  if ¬ s.isReady then refuse s .notReady
  else if pl ≠ [] then refuse s .badLength
  else readOut s (motionRecord s)

/-! ## Drive lock and vehicle -/

/-- A taken TAKE (R128, R129). -/
def takeTake (s : State) : State := if s.dlu.lock = .free then takeLock s else s

/-- A taken RELEASE (R128, R132). -/
def takeRelease (s : State) : State := if s.dlu.lock = .free then s else releaseLock s

/-- The status of a taken TAKE: QUEUED where a lock taken in FREE ends PENDING (R128). -/
def takeStatus (before : LockState) (s : State) : Status := if before = .free ∧ s.dlu.lock = .pending then .queued else .ok

/-- DRIVE_LOCK with its action byte and the rest of its payload (R128). -/
def driveLockFields (p : Port) (action : Byte) (rest : List Byte) (s : State) : State × Reply :=
  if p ≠ .chassis then refuse s .noRight
  else if ¬ s.isReady then refuse s .notReady
  else if rest ≠ [] then refuse s .badLength
  else if action = 0 then carryOut (takeTake s) (takeStatus s.dlu.lock) (fun s => lockBlock s.dlu)
  else if action = 1 then carryOut (takeRelease s) (fun _ => .ok) (fun s => lockBlock s.dlu)
  else refuse s .badTarget

/-- DRIVE_LOCK (R128). -/
def askDriveLock : Handler := fun p pl s =>
  match pl with
  | action :: rest => driveLockFields p action rest s
  | [] =>
    if p ≠ .chassis then refuse s .noRight
    else if ¬ s.isReady then refuse s .notReady
    else refuse s .badLength

/-- VEHICLE (R123). -/
def askVehicle : Handler := fun p pl s =>
  if p ≠ .chassis then refuse s .noRight
  else if ¬ s.isReady then refuse s .notReady
  else match pl with
    | [i, e, m] =>
      if 1 < i.toNat ∨ 1 < e.toNat ∨ 1 < m.toNat then refuse s .badTarget
      else carryOut (takeReportOfVehicle (i == 1) (e == 1) (m == 1) s) (fun _ => .ok) (fun s => lockBlock s.dlu)
    | _ => refuse s .badLength

/-! ## Climate, tanks, dump -/

/-- The port that learns of a SET_CLIMATE of another (R139). -/
def otherPort (p : Port) : Port := if p = .panel then .gateway else .panel

/-- SET_CLIMATE (R139): CLIMATE_CHANGED is raised once the effective mode is formed. -/
def askSetClimate : Handler := fun p pl s =>
  if p = .chassis then refuse s .noRight
  else if ¬ s.isReady then refuse s .notReady
  else match pl with
    | [m, lo, hi] => match HeatMode.ofCode m.toNat with
      | none => refuse s .badTarget
      | some mode =>
        let sent := readLe2Signed [lo, hi]
        let target := clampInt 100 280 sent
        carryOut (raise .climateChanged 0 mode.code [otherPort p] (applyClimate mode target s))
          (fun _ => if target = sent then .ok else .clamped) climateBlock
    | _ => refuse s .badLength

/-- GET_CLIMATE (R155). -/
def askClimate : Handler := fun _ pl s =>
  if ¬ s.isReady then refuse s .notReady
  else if pl ≠ [] then refuse s .badLength
  else readOut s (climateBlock s)

/-- A CLOSE in DUMPED may be taken: the temperature in use is above the threshold + 10 (R149). -/
def State.warmEnough (s : State) : Bool := s.cwc.temp.value.any (fun t => s.sto.live.dumpThreshold + 10 < t)

/-- CLOSE by the dump state (R149). -/
def takeClose (s : State) : State × Reply :=
  match s.cwc.dump with
  | .startup => refuse s .cold
  | .closing => carryOut s (fun _ => .ok) climateBlock
  | .closed => carryOut s (fun _ => .ok) climateBlock
  | .dumped =>
    if s.warmEnough then
      carryOut (closeByRequest s) (fun s => if s.cwc.dump = .closed then .ok else .queued) climateBlock
    else refuse s .cold

/-- DUMP with its action byte and the rest of its payload (R149). -/
def dumpFields (p : Port) (action : Byte) (rest : List Byte) (s : State) : State × Reply :=
  if p = .chassis then refuse s .noRight
  else if ¬ s.isReady then refuse s .notReady
  else if rest ≠ [] then refuse s .badLength
  else if 1 < action.toNat then refuse s .badTarget
  else if action = 0 then
    if p = .gateway then refuse s .noRight else carryOut (dumpByRequest s) (fun _ => .ok) climateBlock
  else takeClose s

/-- DUMP (R149). -/
def askDump : Handler := fun p pl s =>
  match pl with
  | action :: rest => dumpFields p action rest s
  | [] =>
    if p = .chassis then refuse s .noRight
    else if ¬ s.isReady then refuse s .notReady
    else refuse s .badLength

/-- GET_TANKS (R155). -/
def askTanks : Handler := fun _ pl s =>
  if ¬ s.isReady then refuse s .notReady
  else if pl ≠ [] then refuse s .badLength
  else readOut s (tanksRecord s)

/-! ## Settings -/

/-- GET_SETTING (R171). -/
def askSetting : Handler := fun _ pl s =>
  if ¬ s.isReady then refuse s .notReady
  else match pl with
    | [id] => match SettingId.ofNat id.toNat with
      | some i => readOut s (settingRecord s id i)
      | none => refuse s .badTarget
    | _ => refuse s .badLength

/-- What the owning block does with a new live value (R172); `old` is the live settings before it. A value put that already stood is no change
(R34, R95, R143; log 28). -/
def settingTaken (old : Settings) (i : SettingId) (s : State) : State :=
  match i with
  | .cap => if old.cap = s.sto.live.cap then s else applyCap s
  | .factors => recomputeSoc s
  | .ocvEnable => if old.ocvEnable = s.sto.live.ocvEnable then s else applyOcvEnable s.sto.live.ocvEnable s
  | .lvdVoltage => s.setLive { s.sto.live with criticalVoltage := min s.sto.live.criticalVoltage (s.sto.live.lvdVoltage - 300) }
  | .batteryLimit => budgetCall s
  | .shoreAllowance => budgetCall s
  | .alternatorAllowance => budgetCall s
  | .tier n => if n = outHeat ∧ old.tier[n] ≠ s.sto.live.tier[n] then applyHeatTier s else s
  | .travel a => if old.travel a = s.sto.live.travel a then s else applyTravel a s
  | .dumpThreshold => judgeCold s
  | .freshLow => applyFreshLow s
  | _ => s

/-- A new live value taken (R172). A floor or a dim cap is itself the event of R75. -/
def putSetting (i : SettingId) (v : SettingValue) (s : State) : State :=
  let change := fun s : State => s.setLive (s.sto.live.put i v)
  match i with
  | .floor _ => gateCall (fun s => judgeGates (change s)) s
  | .dimCap _ => gateCall change s
  | _ => settingTaken s.sto.live i (change s)

/-- The value taken of the value sent, and whether it was clamped (R172). -/
def takenValue (st : Settings) (i : SettingId) : SettingValue → SettingValue × Bool
  | .scalar x => (.scalar (st.clamp i x), st.clamp i x != x)
  | v => (v, false)

/-- PUT_SETTING of a known id (R172 checks (5) to (7)). -/
def putFields (id : Byte) (i : SettingId) (body : List Byte) (s : State) : State × Reply :=
  if body.length ≠ i.form.len then refuse s .badLength
  else match readValue i.form body with
    | none => refuse s .badTarget
    | some v =>
      if ¬ tableValid i v then refuse s .badTable
      else
        let q := takenValue s.sto.live i v
        carryOut (putSetting i q.1 s) (fun _ => if q.2 then .clamped else .ok) (fun s => settingRecord s id i)

/-- PUT_SETTING (R172). -/
def askPutSetting : Handler := fun p pl s =>
  if p ≠ .panel then refuse s .noRight
  else if ¬ s.isReady then refuse s .notReady
  else match pl with
    | [] => refuse s .badLength
    | id :: body => match SettingId.ofNat id.toNat with
      | none => refuse s .badTarget
      | some i => putFields id i body s

/-- SAVE_SETTINGS (R173). -/
def askSave : Handler := fun p pl s =>
  if p ≠ .panel then refuse s .noRight
  else if ¬ s.isReady then refuse s .notReady
  else if pl ≠ [] then refuse s .badLength
  else match s.sto.writing with
    | some _ => refuse s .notReady
    | none => carryOut (startWrite (saveImage s)) (fun _ => .ok) (fun _ => [])

/-! ## The catalogue -/

/-- The port's own check failed: the KIND is not in the catalogue (R162). -/
def askUnknown : Handler := fun _ _ s => refuse s .unknownKind

/-- The handler of a kind (11 section 11.1). -/
def handlerOf (kind : Byte) : Handler :=
  match kind.toNat with
  | 1 => askIdent
  | 2 => askEnergy
  | 3 => askHistory
  | 4 => askSetCharge
  | 5 => askLoad
  | 6 => askLoads
  | 7 => askSetLoad
  | 8 => askRunScene
  | 9 => askSetScene
  | 10 => askScene
  | 11 => askMove
  | 12 => askMotion
  | 13 => askDriveLock
  | 14 => askVehicle
  | 15 => askSetClimate
  | 16 => askClimate
  | 17 => askDump
  | 18 => askTanks
  | 19 => askSetting
  | 20 => askPutSetting
  | 21 => askSave
  | 22 => askFetch
  | _ => askUnknown

end Sys2Proof.Machine
end

