-- ==== Sys2Proof/Machine/Ports.lean ====
section
/-! DEFINITION. The message ports (09): taking a frame and its answer (R159 to R162), bytes (R157), abandoned frames (R158), the end of an answer (R160), link resets (R165) and the notice clock (R166). -/

namespace Sys2Proof.Machine

/-- The receive state of a port replaced. -/
def setReceive (p : Port) (r : Receive) (s : State) : State := s.setPort p { s.port p with receive := r }

/-- The answer of a port: `some` while it is ANSWERING (R160). -/
def setAnswer (p : Port) (a : Option (List Byte)) (s : State) : State := s.setPort p { s.port p with answer := a }

/-- A frame is taken: HUNT, the request carried out, ANSWERING with its answer frame (R159 to R162). A port that is ANSWERING takes no
frame (R160), and LEN does not pass 56 (R157). -/
def takeRequest (h : Handler) (p : Port) (tag : Byte) (payload : List Byte) (s : State) : State :=
  if (s.port p).answer.isSome ∨ 56 < payload.length then s
  else
    let q := h p payload (setReceive p .hunt s)
    setAnswer p (some (answerFrame tag q.2)) q.1

/-- A byte judged in the receive state of a frame in progress, or the SYNC that begins one (R157, R159). -/
def judgeByte (p : Port) (byte : Byte) (s : State) : State :=
  match (s.port p).receive with
  | .hunt => if byte = syncByte then setReceive p .length s else s
  | .length => if byte.toNat ≤ 56 then setReceive p (.kind byte (crc8Byte 0 byte)) s else setReceive p .hunt s
  | .kind len crc => setReceive p (.tag len byte (crc8Byte crc byte)) s
  | .tag len kind crc =>
    if len = 0 then setReceive p (.check kind byte [] (crc8Byte crc byte)) s
    else setReceive p (.body len kind byte [] (crc8Byte crc byte)) s
  | .body len kind tag got crc =>
    if got.length + 1 < len.toNat then setReceive p (.body len kind tag (got ++ [byte]) (crc8Byte crc byte)) s
    else setReceive p (.check kind tag (got ++ [byte]) (crc8Byte crc byte)) s
  | .check kind tag got crc =>
    if byte = crc then takeRequest (handlerOf kind) p tag got s else setReceive p .hunt s

/-- A byte that the UART completes (R157, R158, R160): discarded while ANSWERING; with a framing error it abandons the frame, or is
skipped in HUNT. -/
def byteCompletes (p : Port) (byte : Byte) (stopBit : Bool) (s : State) : State :=
  if (s.port p).answer.isSome then s
  else if stopBit then judgeByte p byte s
  else setReceive p .hunt s

/-- Whether the receive state can see this cause of abandoning (R158). -/
def Receive.abandonedBy (r : Receive) : AbandonCause → Bool
  | .framingError => r != .hunt
  | .badLength => r == .length
  | .badCrc => match r with
    | .check _ _ _ _ => true
    | _ => false

/-- A frame in progress is abandoned (R158). -/
def abandonFrame (p : Port) (c : AbandonCause) (s : State) : State :=
  if (s.port p).receive.abandonedBy c then setReceive p .hunt s else s

/-- The gap timer expires: the frame in progress is abandoned (R158). -/
def gapExpires (p : Port) (s : State) : State := setReceive p .hunt s

/-- The answer has been sent (R160). -/
def answerEnds (p : Port) (s : State) : State := setAnswer p none s

/-- The port's own part of a link reset: steps (1) and (2) of R165. -/
def PortState.linkReset (q : PortState) : PortState := { q with receive := .hunt, queue := [], overflow := false }

/-- A link reset, which a port judges while it is not ANSWERING (R165). -/
def linkResets (p : Port) (s : State) : State :=
  if (s.port p).answer.isSome then s else linkResetJogs p (s.setPort p (s.port p).linkReset)

/-- One second less of a running time, whose expiry is a command of its own (log 4). -/
def secondLess (n : Nat) : Nat := if 1 < n then n - 1 else n

/-- The auto-off times left of all records, one second later (log 4). -/
def autoOffSecond (s : State) : State :=
  { s with ldc := { s.ldc with loads := s.ldc.loads.map (fun o => o.map (fun l => { l with autoOff := l.autoOff.map secondLess })) } }

/-- The notice clock rises by one (R166), and the remaining times that answers report fall by a second (log 4). -/
def secondPasses (s : State) : State :=
  let s1 := autoOffSecond s
  { s1 with noticeClock := s1.noticeClock + 1, cwc := { s1.cwc with minOff := s1.cwc.minOff.map secondLess } }

end Sys2Proof.Machine
end

