-- ==== Sys2Proof/Machine/Events.lean ====
section
/-! DEFINITION. The meanings of the commands that are not request frames: resets, timers, conversions, pins, pulses, bytes. Each is one definition, called by one arm of exec. MOT acts on LDC's reports as soon as LDC's event, or MOT's own act, has ended (`settle` in each call on LDC and here, log 14). A command whose event cannot occur in the state changes nothing, but for those that log 1 names. -/

namespace Sys2Proof.Machine

/-- The outcome of every command: a next state. -/
abbrev Out1 := Host.Outcome State Fault Refusal

/-! ## Resets and start-up -/

/-- POWER_ON_RESET (R175). -/
def execPowerOnReset (s : State) : Out1 := .next (resetWith .powerOn s)

/-- RESETN: the input held low and released (R175, log 7). -/
def execResetn (s : State) : Out1 := .next (resetWith .resetn s)

/-- STORE_READ_COMPLETE (R175 steps (2) and (3)). -/
def execStoreReadComplete (fastFirst : Bool) (s : State) : Out1 := .next (settle (storeReadCompletes fastFirst s))

/-! ## SCV -/

/-- FAST_TRIGGER_EXPIRY (R5). -/
def execFastTriggerExpiry (s : State) : Out1 := .next (fastTriggerTaken s)

/-- SLOW_TRIGGER_EXPIRY (R8). -/
def execSlowTriggerExpiry (s : State) : Out1 := .next (slowTriggerTaken s)

/-- FAST_CONVERSION_COMPLETE (R6). -/
def execFastConversionComplete (code : BitVec 12) (s : State) : Out1 := .next (settle (fastCompletes code s))

/-- SLOW_CONVERSION_COMPLETE (R9). -/
def execSlowConversionComplete (code : BitVec 12) (s : State) : Out1 := .next (slowCompletes code s)

/-- REFCHK_COMPLETE (R10, R11): the slots are handed on one after another, and MOT acts on the reports that one brings before the next (log 14). -/
def execRefchkComplete (result : BitVec 13) (s : State) : Out1 := .next (settle (refchkCompletes result s))

/-! ## CHG: the events of 02 reached at their moment (log 3) -/

/-- SUSPECT_RUN_LIMIT (R22). -/
def execSuspectRunLimit (s : State) : Out1 := .next (suspectLimit s)

/-- MINUTE_PUSH (R26). -/
def execMinutePush (s : State) : Out1 := .next (minutePush s)

/-- HOUR_PUSH (R27). -/
def execHourPush (s : State) : Out1 := .next (hourPush s)

/-- The checkpoint push count returns to 0 at a request of its own (R26, R40). -/
def clearCheckpointPushes (s : State) : State := { s with chg := { s.chg with checkpointPushes := 0 } }

/-- CHECKPOINT_REQUEST (R40, R173). -/
def execCheckpointRequest (cause : CheckpointCause) (s : State) : Out1 :=
  match cause with
  | .fifteenthPush => .next (requestCheckpoint (clearCheckpointPushes s))
  | .criticalEntry => .next (requestCheckpoint s)

/-- REST_WINDOW_OPEN (R30). -/
def execRestWindowOpen (s : State) : Out1 :=
  match s.chg.rest with
  | .timing _ => .next (openWindow s)
  | _ => .next s

/-- REST_WINDOW_CLOSE (R32); it needs a set account and a HOUSE_V value in the window (log 34). -/
def execRestWindowClose (s : State) : Out1 :=
  match s.chg.rest with
  | .averaging _ count _ => if 0 < count ∧ s.chg.accountSet then .next (settle (closeWindow s)) else .next s
  | _ => .next s

/-- FULL_SYNC (R35). -/
def execFullSync (s : State) : Out1 :=
  if s.chg.fullArmed ∧ s.chg.accountSet then .next (settle (fullSync s)) else .next s

/-- The counter of an alarm that changes is 0 (R37). -/
def clearAlarmCounts (lvd critical : Bool) (s : State) : State :=
  { s with chg := { s.chg with
      lvdCount := if s.chg.lvd = lvd then s.chg.lvdCount else 0
      criticalCount := if s.chg.critical = critical then s.chg.criticalCount else 0 } }

/-- ALARM_CHANGE (R38). -/
def execAlarmChange (lvd critical : Bool) (s : State) : Out1 :=
  .next (settle (applyAlarms lvd critical (clearAlarmCounts lvd critical s)))

/-- SUPPLY_CHANGE (R39). -/
def execSupplyChange (present : Bool) (s : State) : Out1 := .next (settle (applySupply present s))

/-! ## LDC and OUT -/

/-- A record's auto-off timer runs out (R52, R48): OFF, LOAD_EXPIRED to the owner it had, admission. -/
def autoOffEnds (n : Fin 14) (s : State) : State :=
  match s.load n with
  | none => s
  | some l =>
    match l.autoOff with
    | none => s
    | some _ => walk none (raiseLoad .loadExpired n 0 l.owner (dropLoad n s))

/-- AUTO_OFF_EXPIRY (R52). -/
def execAutoOffExpiry (n : Fin 14) (s : State) : Out1 := .next (settle (autoOffEnds n s))

/-- One fade step of one DIMMED output (R86). -/
def fadeOne (s : State) (n : Fin 14) : State :=
  if s.out.level[n] = s.out.target[n] then s
  else setLevel n (fadeToward (s.sto.live.fadeRateOf n) s.out.level[n] s.out.target[n]) s

/-- The DIMMED records (R42). -/
def dimmedRecords : List (Fin 14) := [0, 1, 2, 3, 4, 5]

/-- FADE_STEP_EXPIRY (R86). -/
def execFadeStepExpiry (s : State) : Out1 := .next (dimmedRecords.foldl fadeOne s)

/-- The driven input of a bridge (section 5.4). -/
def drivenGate (a : Axis) (e : BridgeState) : Fin 16 := if e = .driveIn then gateB a else gateA a

/-- A soft-start expiry: the duty rises by 16, and at 255 the timer stops (R89). -/
def softStartStep (a : Axis) (s : State) : State :=
  let b := s.bridge a
  if b.softStart then
    let duty := min 255 (b.duty + 16)
    setCompare (drivenGate a b.effective) duty
      (s.setBridge a { b with duty := duty, softStart := decide (b.duty + 16 ≤ 255) })
  else s

/-- SOFT_START_EXPIRY (R89). -/
def execSoftStartExpiry (a : Axis) (s : State) : Out1 := .next (softStartStep a s)

/-- The compare values that wait are loaded (R82). -/
def loadWaiting (o : Out) : Out :=
  { o with
    timebase := 0
    compare := Vector.ofFn (fun g : Fin 16 => (o.waiting[g]).getD o.compare[g])
    waiting := Vector.replicate 16 none }

/-- TIMEBASE_WRAP (R81, R82): the timebase is 0 and the waiting values are loaded, whatever the count (log 43). -/
def execTimebaseWrap (s : State) : Out1 := .next { s with out := loadWaiting s.out }

/-- PUMP_HOLD_CALL (R79). The dumped-hold call that CWC left waiting sets the hold only if the dump state is still DUMPED (R145).
Every other call is taken as CWC's whatever CWC's state, a clearing of the dumped hold in DUMPED too (log 60). -/
def execPumpHoldCall (hold : PumpHold) (set : Bool) (s : State) : Out1 :=
  match hold, set with
  | .dumped, true => .next (settle (takeDumpedCall s))
  | _, _ => .next (settle (setHold hold set s))

/-! ## MOT -/

/-- HALL_PULSE (R102). -/
def execHallPulse (a : Axis) (gap : Nat) (s : State) : Out1 := .next (settle (hallPulseTaken a gap s))

/-- LAST_PULSE_TIMER_EXPIRY (R103). -/
def execLastPulseTimerExpiry (a : Axis) (s : State) : Out1 := .next (settle (lastPulseEnds a s))

/-- OVERCURRENT_TRIP (R105): it comes to the holder of the sense while it is RUNNING. -/
def execOvercurrentTrip (a : Axis) (s : State) : Out1 :=
  if s.mot.sense = some a ∧ (s.axis a).state = .running then .next (settle (overcurrent a s)) else .next s

/-- STOPPING_TIMER_EXPIRY (R106). -/
def execStoppingTimerExpiry (a : Axis) (s : State) : Out1 := .next (settle (stoppingEnds a s))

/-- JOG_DEADLINE_EXPIRY (R113). -/
def execJogDeadlineExpiry (a : Axis) (s : State) : Out1 := .next (settle (jogDeadlineEnds a s))

/-- STANDBY_TIMER_EXPIRY (R114). -/
def execStandbyTimerExpiry (a : Axis) (s : State) : Out1 := .next (settle (standbyEnds a s))

/-- STOPN_ACTIVE (R110). -/
def execStopnActive (s : State) : Out1 := .next (settle (stopnBecomesActive s))

/-- STOPN_INACTIVE: the level of the input alone changes (R110). -/
def execStopnInactive (s : State) : Out1 := .next { s with mot := { s.mot with stopn := false } }

/-- ENTRY_OPEN (R116). -/
def execEntryOpen (s : State) : Out1 := .next (settle (entryOpens s))

/-- ENTRY_CLOSE: the contact alone changes (R116). -/
def execEntryClose (s : State) : Out1 := .next { s with mot := { s.mot with entryOpen := false } }

/-- WIND_PULSE (R118). The count has no upper end (log 58). -/
def execWindPulse (s : State) : Out1 := .next { s with mot := { s.mot with windCount := s.mot.windCount + 1 } }

/-- WIND_WINDOW_END (R118, R119). -/
def execWindWindowEnd (s : State) : Out1 := .next (settle (windowEnds s))

/-- CALM_TIMER_EXPIRY (R118). -/
def execCalmTimerExpiry (s : State) : Out1 := .next (calmEnds s)

/-! ## DLU and CWC -/

/-- STALENESS_TIMER_EXPIRY (R124). -/
def execStalenessTimerExpiry (s : State) : Out1 := .next (settle (becomeStale s))

/-- MINIMUM_OFF_EXPIRY (R141). -/
def execMinimumOffExpiry (s : State) : Out1 := .next (settle (minimumOffEnds s))

/-- FALLBACK_REQUEST (R142, log 60). -/
def execFallbackRequest (s : State) : Out1 := .next (settle (takeFallbackCall s))

/-- VEHICLE_AGE_TICK (R122). -/
def execVehicleAgeTick (s : State) : Out1 := .next (ageTick s)

/-! ## Ports and STO -/

/-- FRAME_ABANDONED (R158). -/
def execFrameAbandoned (p : Port) (cause : AbandonCause) (s : State) : Out1 := .next (abandonFrame p cause s)

/-- GAP_TIMER_EXPIRY (R158). -/
def execGapTimerExpiry (p : Port) (s : State) : Out1 := .next (gapExpires p s)

/-- ANSWER_COMPLETE (R160). -/
def execAnswerComplete (p : Port) (s : State) : Out1 := .next (answerEnds p s)

/-- LINK_RESET (R165). -/
def execLinkReset (p : Port) (s : State) : Out1 := .next (settle (linkResets p s))

/-- NOTICE_CLOCK_TICK (R166). -/
def execNoticeClockTick (s : State) : Out1 := .next (secondPasses s)

/-- WRITE_COMPLETE (R173). -/
def execWriteComplete (s : State) : Out1 := .next (completeWrite s)

/-- UART_BYTE_COMPLETE (R157). -/
def execUartByteComplete (p : Port) (byte : Byte) (stopBit : Bool) (s : State) : Out1 := .next (byteCompletes p byte stopBit s)

end Sys2Proof.Machine
end

