-- ==== Sys2Proof/Machine/Frames.lean ====
section
/-! DEFINITION. The meanings of the request commands: each is the taking of a whole frame of its kind at its port (R159, log 29), with the handler of Requests.lean. -/

namespace Sys2Proof.Machine

/-- UNKNOWN_KIND (R162). A kind of the catalogue is no such frame (log 1). -/
def execUnknownKind (kind : Byte) (f : Frame) (s : State) : Out1 :=
  if knownKind kind then .next s else .next (takeRequest askUnknown f.port f.tag f.payload s)

/-- IDENT (R178). -/
def execIdent (f : Frame) (s : State) : Out1 := .next (takeRequest askIdent f.port f.tag f.payload s)

/-- GET_ENERGY (R41). -/
def execGetEnergy (f : Frame) (s : State) : Out1 := .next (takeRequest askEnergy f.port f.tag f.payload s)

/-- GET_HISTORY (R28). -/
def execGetHistory (f : Frame) (s : State) : Out1 := .next (takeRequest askHistory f.port f.tag f.payload s)

/-- SET_CHARGE (R36). -/
def execSetCharge (f : Frame) (s : State) : Out1 := .next (takeRequest askSetCharge f.port f.tag f.payload s)

/-- GET_LOAD (R62). -/
def execGetLoad (f : Frame) (s : State) : Out1 := .next (takeRequest askLoad f.port f.tag f.payload s)

/-- GET_LOADS (R62). -/
def execGetLoads (f : Frame) (s : State) : Out1 := .next (takeRequest askLoads f.port f.tag f.payload s)

/-- SET_LOAD (R47). -/
def execSetLoad (f : Frame) (s : State) : Out1 := .next (takeRequest askSetLoad f.port f.tag f.payload s)

/-- RUN_SCENE (R60). -/
def execRunScene (f : Frame) (s : State) : Out1 := .next (takeRequest askRunScene f.port f.tag f.payload s)

/-- SET_SCENE (R59). -/
def execSetScene (f : Frame) (s : State) : Out1 := .next (takeRequest askSetScene f.port f.tag f.payload s)

/-- GET_SCENE (R61). -/
def execGetScene (f : Frame) (s : State) : Out1 := .next (takeRequest askScene f.port f.tag f.payload s)

/-- GET_MOTION (R121). -/
def execGetMotion (f : Frame) (s : State) : Out1 := .next (takeRequest askMotion f.port f.tag f.payload s)

/-- VEHICLE (R123). -/
def execVehicle (f : Frame) (s : State) : Out1 := .next (takeRequest askVehicle f.port f.tag f.payload s)

/-- SET_CLIMATE (R139). -/
def execSetClimate (f : Frame) (s : State) : Out1 := .next (takeRequest askSetClimate f.port f.tag f.payload s)

/-- GET_CLIMATE (R155). -/
def execGetClimate (f : Frame) (s : State) : Out1 := .next (takeRequest askClimate f.port f.tag f.payload s)

/-- GET_TANKS (R155). -/
def execGetTanks (f : Frame) (s : State) : Out1 := .next (takeRequest askTanks f.port f.tag f.payload s)

/-- GET_SETTING (R171). -/
def execGetSetting (f : Frame) (s : State) : Out1 := .next (takeRequest askSetting f.port f.tag f.payload s)

/-- PUT_SETTING (R172). -/
def execPutSetting (f : Frame) (s : State) : Out1 := .next (takeRequest askPutSetting f.port f.tag f.payload s)

/-- SAVE_SETTINGS (R173). -/
def execSaveSettings (f : Frame) (s : State) : Out1 := .next (takeRequest askSave f.port f.tag f.payload s)

/-- FETCH (R169). -/
def execFetch (f : Frame) (s : State) : Out1 := .next (takeRequest askFetch f.port f.tag f.payload s)

/-- MOVE EXTEND (R98). -/
def execMoveExtend (p : Port) (tag axis : Byte) (rest : List Byte) (s : State) : Out1 :=
  .next (takeRequest askMove p tag (axis :: 0 :: rest) s)

/-- MOVE RETRACT (R98). -/
def execMoveRetract (p : Port) (tag axis : Byte) (rest : List Byte) (s : State) : Out1 :=
  .next (takeRequest askMove p tag (axis :: 1 :: rest) s)

/-- MOVE GOTO (R98). -/
def execMoveGoto (p : Port) (tag axis : Byte) (rest : List Byte) (s : State) : Out1 :=
  .next (takeRequest askMove p tag (axis :: 2 :: rest) s)

/-- MOVE JOG_OUT (R98, R113). -/
def execMoveJogOut (p : Port) (tag axis : Byte) (rest : List Byte) (s : State) : Out1 :=
  .next (takeRequest askMove p tag (axis :: 3 :: rest) s)

/-- MOVE JOG_IN (R98, R113). -/
def execMoveJogIn (p : Port) (tag axis : Byte) (rest : List Byte) (s : State) : Out1 :=
  .next (takeRequest askMove p tag (axis :: 4 :: rest) s)

/-- MOVE CONTINUE (R113). -/
def execMoveContinue (p : Port) (tag axis : Byte) (rest : List Byte) (s : State) : Out1 :=
  .next (takeRequest askMove p tag (axis :: 5 :: rest) s)

/-- MOVE STOP (R110). -/
def execMoveStop (p : Port) (tag axis : Byte) (rest : List Byte) (s : State) : Out1 :=
  .next (takeRequest askMove p tag (axis :: 6 :: rest) s)

/-- DRIVE_LOCK TAKE (R128, R129). -/
def execDriveLockTake (p : Port) (tag : Byte) (rest : List Byte) (s : State) : Out1 :=
  .next (takeRequest askDriveLock p tag (0 :: rest) s)

/-- DRIVE_LOCK RELEASE (R128, R132). -/
def execDriveLockRelease (p : Port) (tag : Byte) (rest : List Byte) (s : State) : Out1 :=
  .next (takeRequest askDriveLock p tag (1 :: rest) s)

/-- DUMP DUMP_NOW (R149). -/
def execDumpNow (p : Port) (tag : Byte) (rest : List Byte) (s : State) : Out1 :=
  .next (takeRequest askDump p tag (0 :: rest) s)

/-- DUMP CLOSE (R149). -/
def execDumpClose (p : Port) (tag : Byte) (rest : List Byte) (s : State) : Out1 :=
  .next (takeRequest askDump p tag (1 :: rest) s)

end Sys2Proof.Machine
end

