-- ==== Sys2Proof/Machine/Dispatch.lean ====
section
/-! DEFINITION. exec: one arm per command, each one direct call of its meaning. -/

namespace Sys2Proof.Machine

def exec (i : Instr) (s : State) : Host.Outcome State Fault Refusal :=
  match i with
  | .powerOnReset => Sys2Proof.Machine.execPowerOnReset s
  | .resetn => Sys2Proof.Machine.execResetn s
  | .storeReadComplete fastFirst => Sys2Proof.Machine.execStoreReadComplete fastFirst s
  | .fastTriggerExpiry => Sys2Proof.Machine.execFastTriggerExpiry s
  | .slowTriggerExpiry => Sys2Proof.Machine.execSlowTriggerExpiry s
  | .fastConversionComplete code => Sys2Proof.Machine.execFastConversionComplete code s
  | .slowConversionComplete code => Sys2Proof.Machine.execSlowConversionComplete code s
  | .refchkComplete result => Sys2Proof.Machine.execRefchkComplete result s
  | .suspectRunLimit => Sys2Proof.Machine.execSuspectRunLimit s
  | .minutePush => Sys2Proof.Machine.execMinutePush s
  | .hourPush => Sys2Proof.Machine.execHourPush s
  | .checkpointRequest cause => Sys2Proof.Machine.execCheckpointRequest cause s
  | .restWindowOpen => Sys2Proof.Machine.execRestWindowOpen s
  | .restWindowClose => Sys2Proof.Machine.execRestWindowClose s
  | .fullSync => Sys2Proof.Machine.execFullSync s
  | .alarmChange lvd critical => Sys2Proof.Machine.execAlarmChange lvd critical s
  | .supplyChange present => Sys2Proof.Machine.execSupplyChange present s
  | .autoOffExpiry n => Sys2Proof.Machine.execAutoOffExpiry n s
  | .fadeStepExpiry => Sys2Proof.Machine.execFadeStepExpiry s
  | .softStartExpiry a => Sys2Proof.Machine.execSoftStartExpiry a s
  | .hallPulse a gap => Sys2Proof.Machine.execHallPulse a gap s
  | .lastPulseTimerExpiry a => Sys2Proof.Machine.execLastPulseTimerExpiry a s
  | .overcurrentTrip a => Sys2Proof.Machine.execOvercurrentTrip a s
  | .stoppingTimerExpiry a => Sys2Proof.Machine.execStoppingTimerExpiry a s
  | .jogDeadlineExpiry a => Sys2Proof.Machine.execJogDeadlineExpiry a s
  | .standbyTimerExpiry a => Sys2Proof.Machine.execStandbyTimerExpiry a s
  | .stopnActive => Sys2Proof.Machine.execStopnActive s
  | .stopnInactive => Sys2Proof.Machine.execStopnInactive s
  | .entryOpen => Sys2Proof.Machine.execEntryOpen s
  | .entryClose => Sys2Proof.Machine.execEntryClose s
  | .windPulse => Sys2Proof.Machine.execWindPulse s
  | .windWindowEnd => Sys2Proof.Machine.execWindWindowEnd s
  | .calmTimerExpiry => Sys2Proof.Machine.execCalmTimerExpiry s
  | .stalenessTimerExpiry => Sys2Proof.Machine.execStalenessTimerExpiry s
  | .minimumOffExpiry => Sys2Proof.Machine.execMinimumOffExpiry s
  | .fallbackRequest => Sys2Proof.Machine.execFallbackRequest s
  | .pumpHoldCall hold set => Sys2Proof.Machine.execPumpHoldCall hold set s
  | .frameAbandoned p cause => Sys2Proof.Machine.execFrameAbandoned p cause s
  | .gapTimerExpiry p => Sys2Proof.Machine.execGapTimerExpiry p s
  | .unknownKind kind f => Sys2Proof.Machine.execUnknownKind kind f s
  | .answerComplete p => Sys2Proof.Machine.execAnswerComplete p s
  | .linkReset p => Sys2Proof.Machine.execLinkReset p s
  | .noticeClockTick => Sys2Proof.Machine.execNoticeClockTick s
  | .writeComplete => Sys2Proof.Machine.execWriteComplete s
  | .ident f => Sys2Proof.Machine.execIdent f s
  | .getEnergy f => Sys2Proof.Machine.execGetEnergy f s
  | .getHistory f => Sys2Proof.Machine.execGetHistory f s
  | .setCharge f => Sys2Proof.Machine.execSetCharge f s
  | .getLoad f => Sys2Proof.Machine.execGetLoad f s
  | .getLoads f => Sys2Proof.Machine.execGetLoads f s
  | .setLoad f => Sys2Proof.Machine.execSetLoad f s
  | .runScene f => Sys2Proof.Machine.execRunScene f s
  | .setScene f => Sys2Proof.Machine.execSetScene f s
  | .getScene f => Sys2Proof.Machine.execGetScene f s
  | .moveExtend p tag axis rest => Sys2Proof.Machine.execMoveExtend p tag axis rest s
  | .moveRetract p tag axis rest => Sys2Proof.Machine.execMoveRetract p tag axis rest s
  | .moveGoto p tag axis rest => Sys2Proof.Machine.execMoveGoto p tag axis rest s
  | .moveJogOut p tag axis rest => Sys2Proof.Machine.execMoveJogOut p tag axis rest s
  | .moveJogIn p tag axis rest => Sys2Proof.Machine.execMoveJogIn p tag axis rest s
  | .moveContinue p tag axis rest => Sys2Proof.Machine.execMoveContinue p tag axis rest s
  | .moveStop p tag axis rest => Sys2Proof.Machine.execMoveStop p tag axis rest s
  | .getMotion f => Sys2Proof.Machine.execGetMotion f s
  | .driveLockTake p tag rest => Sys2Proof.Machine.execDriveLockTake p tag rest s
  | .driveLockRelease p tag rest => Sys2Proof.Machine.execDriveLockRelease p tag rest s
  | .vehicle f => Sys2Proof.Machine.execVehicle f s
  | .setClimate f => Sys2Proof.Machine.execSetClimate f s
  | .getClimate f => Sys2Proof.Machine.execGetClimate f s
  | .dumpNow p tag rest => Sys2Proof.Machine.execDumpNow p tag rest s
  | .dumpClose p tag rest => Sys2Proof.Machine.execDumpClose p tag rest s
  | .getTanks f => Sys2Proof.Machine.execGetTanks f s
  | .getSetting f => Sys2Proof.Machine.execGetSetting f s
  | .putSetting f => Sys2Proof.Machine.execPutSetting f s
  | .saveSettings f => Sys2Proof.Machine.execSaveSettings f s
  | .fetch f => Sys2Proof.Machine.execFetch f s
  | .uartByteComplete p byte stopBit => Sys2Proof.Machine.execUartByteComplete p byte stopBit s
  | .timebaseWrap => Sys2Proof.Machine.execTimebaseWrap s
  | .vehicleAgeTick => Sys2Proof.Machine.execVehicleAgeTick s

end Sys2Proof.Machine
end

