-- ==== Sys2Proof/Machine/Step.lean ====
section
/-! DEFINITION. The step of the block: the command at the front of the queue, or what happens on an empty queue (log 2); and where the host places a command. -/

namespace Sys2Proof.Machine

/-- The PWM timebase advances by one count; from 254 it wraps, and the waiting compare values are loaded (R81, R82). -/
def advanceTimebase (o : Out) : Out := if o.timebase < 254 then { o with timebase := o.timebase + 1 } else loadWaiting o

/-- The block's own call that has waited longest is delivered (R142, R145). -/
def deliverCall (c : InternalCall) (s : State) : State :=
  match c with
  | .fallback => settle (takeFallbackCall s)
  | .dumpedHold => settle (takeDumpedCall s)

/-- What the block does when no command waits: its oldest waiting call, else one count of the timebase (DESIGN CHOICE, log 2). -/
def idle (s : State) : State :=
  match s.calls with
  | c :: _ => deliverCall c s
  | [] => { s with out := advanceTimebase s.out }

/-- One step: the command at the front of the queue is executed with the queue's rest. -/
def step (s : State) : Host.Outcome State Fault Refusal :=
  match s.pending with
  | [] => .next (idle s)
  | c :: rest => exec c { s with pending := rest }

/-- The command that the word spells, put at the front of the queue; the state unchanged where it spells none. -/
def State.withFetchWord (s : State) (nbits w : Nat) : State :=
  match decodeTableWord nbits w with
  | some i => { s with pending := i :: s.pending }
  | none => s

end Sys2Proof.Machine
end

