-- ==== Sys2Proof/Safety.lean ====
section
/-! DEFINITION. What counts as a safe state, and the relations in which the claims are stated. -/

namespace Sys2Proof.Machine

/-! ## Invariants -/

/-- Each port's notice queue holds at most 8 notices (R167). -/
def State.QueuesBounded (s : State) : Prop := ∀ p, (s.port p).queue.length ≤ 8

/-- G does not exceed the budget B in force (R63). -/
def State.InBudget (s : State) : Prop := s.grantedSum ≤ s.ldc.budget

/-- No report of LDC waits at MOT: so it is at reset and after every command. -/
def State.Settled (s : State) : Prop := s.mot.reports = []

/-- A bridge drives at most what MOT asks for, MOT asks for OUT only while the axis drives outward and counts outward, and not at all while
the drive lock is PENDING or HELD (R88, R102, R120). -/
structure State.LockSafe (s : State) : Prop where
  follows : ∀ a, (s.bridge a).effective = (s.bridge a).requested ∨ (s.bridge a).effective = .coast
  outward : ∀ a, (s.bridge a).requested = .driveOut → (s.axis a).drivesOutward = true ∧ (s.axis a).countDir = some .outward
  locked : s.dlu.lock ≠ .free → ∀ a, (s.bridge a).requested ≠ .driveOut

/-! ## What an event leaves alone -/

/-- A port to which notices have been raised, in order, and nothing else has happened (R167). -/
def PortState.Grown (q q' : PortState) : Prop := ∃ l : List Notice, q' = l.foldl PortState.push q

/-- LDC without its records and its two counters: the scene table, the gates, B, the copies it holds and the pump holds. -/
def Ldc.inputs (d : Ldc) : Ldc :=
  { d with loads := Vector.replicate 14 none, stampCounter := 0, grantCounter := 0 }

/-- What every event at LDC, OUT and MOT leaves alone: SCV, CHG, STO, the inputs of LDC, the notice clock, the queue; a port only gains
notices. -/
structure Kept (s t : State) : Prop where
  scv : t.scv = s.scv
  chg : t.chg = s.chg
  sto : t.sto = s.sto
  inputs : t.ldc.inputs = s.ldc.inputs
  noticeClock : t.noticeClock = s.noticeClock
  freeIndex : t.freeIndex = s.freeIndex
  pending : t.pending = s.pending
  ports : ∀ p, (s.port p).Grown (t.port p)

/-- A load record but for its stamp and its grant order, which R46 may renumber. -/
def Load.unnumbered (l : Load) : Load := { l with stamp := 0 }.reorder 0

/-- A number that is still free as the next stamp and as the next grant order, so that R46 renumbers nothing. -/
def State.numbersFree (s : State) : Prop :=
  (∀ g ∈ s.stamps, g.2 ≠ s.ldc.stampCounter) ∧ (∀ g ∈ s.orders, g.2 ≠ s.ldc.grantCounter)

/-- Everything but LDC, OUT and the ports is as before. -/
structure OnlyLoads (s t : State) : Prop where
  scv : t.scv = s.scv
  chg : t.chg = s.chg
  mot : t.mot = s.mot
  dlu : t.dlu = s.dlu
  cwc : t.cwc = s.cwc
  sto : t.sto = s.sto
  noticeClock : t.noticeClock = s.noticeClock
  calls : t.calls = s.calls
  freeIndex : t.freeIndex = s.freeIndex
  pending : t.pending = s.pending

/-- Everything but one axis record, its bridge and its two gate-drive outputs is as before. -/
structure OnlyAxis (a : Axis) (s t : State) : Prop where
  mot : ∀ r, (t.setAxis a r).mot = (s.setAxis a r).mot
  bridges : ∀ b, b ≠ a → t.bridge b = s.bridge b
  outputs : t.out.target = s.out.target ∧ t.out.level = s.out.level ∧ t.out.timebase = s.out.timebase
  gates : ∀ g : Fin 16, g ≠ gateA a → g ≠ gateB a → t.out.compare[g] = s.out.compare[g] ∧ t.out.waiting[g] = s.out.waiting[g]
  rest : t = { s with mot := t.mot, out := t.out }

/-- A record that is OFF would be granted as soon as it is requested at a tier: nothing else is PENDING, nothing holds it, and it fits
(R55 to R57). -/
structure State.freshFits (s : State) (n : Fin 14) (t : Tier) : Prop where
  off : s.load n = none
  alone : s.pendingList = []
  notHeld : s.holdingReason n t = none
  fits : s.grantedSum + s.sto.live.declared[n] ≤ s.ldc.budget

/-- Record `n` has been granted on a fresh request at a level: the owner, the level, the tier, the timer, the counted current; numbers as R46
gives them; the other records as they were (R50, R54, R58). -/
structure GrantedFresh (n : Fin 14) (owner : Owner) (level : Nat) (tier : Tier) (autoOff : Option Nat) (s t : State) : Prop where
  record : ∃ stamp order, t.load n = some ⟨owner, level, tier, stamp, autoOff, .granted order s.sto.live.declared[n]⟩ ∧
    (s.numbersFree → stamp = s.ldc.stampCounter ∧ order = s.ldc.grantCounter)
  others : ∀ m, m ≠ n → (t.load m).map Load.unnumbered = (s.load m).map Load.unnumbered
  kept : s.numbersFree → ∀ m, m ≠ n → t.load m = s.load m
  counters : s.numbersFree → t.ldc.stampCounter = s.ldc.stampCounter + 1 ∧ t.ldc.grantCounter = s.ldc.grantCounter + 1
  inputs : t.ldc.inputs = s.ldc.inputs

/-! ## What has come about besides other things -/

/-- A notice has come to a port, others perhaps before and after it (R167). -/
def Raised (p : Port) (x : Notice) (s t : State) : Prop := ∃ q, (s.port p).Grown q ∧ (q.push x).Grown (t.port p)

/-- A notice has come to a port's queue, others perhaps before and after it, whatever the port receives and answers meanwhile (R167). -/
def Queued (p : Port) (x : Notice) (s t : State) : Prop :=
  Raised p x s (t.setPort p { t.port p with receive := (s.port p).receive, answer := (s.port p).answer })

/-- A RETRACT of a safety source is the plan of an axis: one INWARD END segment, in mode AUTO, at tier ESSENTIAL (R94, R119, R120). -/
structure SafetyRetract (a : Axis) (src : Source) (t : State) : Prop where
  plan : (t.axis a).plan = some ⟨⟨.inward, 0, true⟩, none, false⟩
  source : (t.axis a).source = some src
  mode : (t.axis a).mode = .auto
  tier : ∀ l, t.load (axisRecord a) = some l → l.tier = .essential

/-- What the taking of the drive lock does to one axis (R120, R129 step (3)): none where it is stowed and IDLE; else its mark is set and it has a
lock retraction, held toward FAULT (R108); an outward drive stops, a back-off toward FAULT (R109). -/
structure LockRetracts (a : Axis) (s t : State) : Prop where
  stays : (s.axis a).stowedIdle = true → t.axis a = s.axis a ∧ t.dlu.planMark a = s.dlu.planMark a
  marked : (s.axis a).stowedIdle = false → t.dlu.planMark a = true
  planned : (s.axis a).stowedIdle = false → (s.axis a).towardFault = false → SafetyRetract a .lock t
  stopped : (s.axis a).state = .running → (s.axis a).outwardSegment = true → (s.axis a).backOff = none →
    (t.axis a).state = .stopping ∧ (t.axis a).continuation = some .newPlan ∧ (t.bridge a).requested = .brake
  held : (s.axis a).towardFault = true →
    (t.axis a).state = .stopping ∧ (t.axis a).continuation = some .fault ∧ (t.axis a).held = some .lock

/-- The drive lock has been taken with an axis out (R126, R129): PENDING, with both axes as R129 gives it, and nothing changed at SCV, CHG, STO and the
inputs of LDC. -/
structure LockTaken (s t : State) : Prop where
  lock : t.dlu.lock = .pending
  lockFault : t.dlu.lockFault = s.dlu.lockFault
  freeze : t.cwc.freeze = true
  axes : ∀ a, LockRetracts a s t
  scv : t.scv = s.scv
  chg : t.chg = s.chg
  sto : t.sto = s.sto
  inputs : t.ldc.inputs = s.ldc.inputs
  noticeClock : t.noticeClock = s.noticeClock
  pending : t.pending = s.pending

/-- An axis in which a lock that is taken can end no plan at once: it drives, it stops after a drive, or it is at rest. -/
def AxisRec.settledForLock (r : AxisRec) : Prop := r.state = .idle ∨ r.state = .fault ∨ r.state = .running ∨ r.state = .stopping

/-! ## Energy gates, shedding and pre-emption -/

/-- One energy gate before and after it was judged at a SoC (R68). -/
structure GateJudged (floor soc : Nat) (before after : Bool) : Prop where
  closes : before = true → soc < floor → after = false
  staysOpen : before = true → floor ≤ soc → after = true
  staysClosed : before = false → soc < floor + 20 → after = false
  opens : before = false → floor + 20 ≤ soc → after = true

/-- Only masters' records are live. -/
def State.mastersOnly (s : State) : Prop := ∀ n, s.load n ≠ none → masterRecord n = true

/-- What a record counts in G once it is granted: its counted current where it is GRANTED already, else its declared current (R58, R63). -/
def State.currentOf (s : State) (n : Fin 14) : Nat :=
  match s.load n with
  | some l => if l.isGranted then countedCurrent (some l) else s.sto.live.declared[n]
  | none => 0

/-- A record is live and nothing holds it under the inputs of a later state (R71). -/
def State.notHeld (s t : State) (n : Fin 14) : Bool := (s.load n).any (fun l => t.holdingReason n l.tier == none)

/-- The records before and after an event of R75 that has left the inputs of the second state: the held ones are GATED (R76, R77), the others are
not, and keep all but their phase. Where the others fit together they are GRANTED at their drive level, the restored ones with LOAD_RESTORED (R77, R73,
R78); a restored one that finds no room waits with its restoring mark (R77). -/
structure RecordsJudged (s t : State) : Prop where
  off : ∀ n, s.load n = none → t.load n = none
  held : ∀ n l, s.load n = some l → ∀ g, t.holdingReason n l.tier = some g →
    t.load n = some { l with phase := .gated g } ∧
    (l.isGranted = true → t.out.target[n] = 0 ∧ t.out.level[n] = 0 ∧ t.out.compare[recordGate n] = 0) ∧
    (l.phase ≠ .gated g → Queued l.owner.port ⟨.loadGated, byteOf n.val, BitVec.ofNat 16 g.code, s.noticeClock⟩ s t)
  others : ∀ n l, s.load n = some l → t.holdingReason n l.tier = none →
    ∃ l', t.load n = some l' ∧ l'.isGated = false ∧ l' = { l with phase := l'.phase }
  fits : ((allRecords.filter (s.notHeld t)).map s.currentOf).sum ≤ t.ldc.budget →
    ∀ n l, s.load n = some l → t.holdingReason n l.tier = none → l.isPending = false →
      (∃ l' order, t.load n = some l' ∧ l' = { l with phase := .granted order (s.currentOf n) }) ∧ t.out.target[n] = t.driveLevel n l ∧
      (l.isGated = true →
        Queued l.owner.port ⟨.loadRestored, byteOf n.val, BitVec.ofNat 16 (t.driveLevel n l), s.noticeClock⟩ s t)
  waits : ∀ n l, s.load n = some l → l.isGated = true → t.holdingReason n l.tier = none → l.tier ≠ .essential →
    (∀ m, m ≠ n → s.load m ≠ none → s.granted m = true ∧ s.notHeld t m = true) → t.ldc.budget < s.grantedSum + s.sto.live.declared[n] →
    t.load n = some { l with phase := .pending true }

/-- A changed SoC was handed to LDC, the three energy gates were judged at it, and the records with them; an unchanged one was not (R24, R68, R75). -/
structure SocHandedOn (s t : State) : Prop where
  soc : t.chg.soc ≠ s.chg.soc → t.ldc.soc = some t.chg.soc
  essential : t.chg.soc ≠ s.chg.soc →
    GateJudged s.sto.live.floorEssential t.chg.soc s.ldc.gateOpen.essential t.ldc.gateOpen.essential
  comfort : t.chg.soc ≠ s.chg.soc → GateJudged s.sto.live.floorComfort t.chg.soc s.ldc.gateOpen.comfort t.ldc.gateOpen.comfort
  leisure : t.chg.soc ≠ s.chg.soc → GateJudged s.sto.live.floorLeisure t.chg.soc s.ldc.gateOpen.leisure t.ldc.gateOpen.leisure
  unchanged : t.chg.soc = s.chg.soc → t.ldc.soc = s.ldc.soc ∧ t.ldc.gateOpen = s.ldc.gateOpen
  records : t.chg.soc ≠ s.chg.soc → s.Settled → s.mastersOnly → RecordsJudged s t

/-- An axis has lost the grant of its record, which stands in a phase now: R111 in AUTO, R112 in a jog, R109 in a back-off. The bridge coasts from the
loss on, and MOT's brake waits for a grant; the count direction stays (R102). The other axis is as before. -/
structure GrantLost (a : Axis) (l : Load) (phase : Phase) (s t : State) : Prop where
  coasts : (t.bridge a).effective = .coast
  brakes : (s.axis a).state = .running → (t.bridge a).requested = .brake
  runs : (s.axis a).state = .running → t.axis a = { s.axis a with
    state := .stopping, lastPulse := false, backOff := none
    continuation := some (if (s.axis a).backOff ≠ none then .fault else if (s.axis a).mode = .auto then .wait else .halt .grantLost) }
  stopsAuto : (s.axis a).state = .stopping → (s.axis a).mode = .auto → t.axis a =
    match (s.axis a).continuation, (s.axis a).plan with
    | some .backOff, _ => { s.axis a with continuation := some .fault, backOff := none }
    | some .next, some ⟨first, some second, false⟩ =>
      { s.axis a with plan := some ⟨first, some second, true⟩, continuation := some .wait, backOff := none }
    | _, _ => s.axis a
  stopsJog : (s.axis a).state = .stopping → (s.axis a).mode = .jog → t.axis a =
    match (s.axis a).continuation with
    | some .fault => s.axis a
    | some (.halt _) => s.axis a
    | some .backOff => { s.axis a with continuation := some .fault, backOff := none }
    | _ => { s.axis a with continuation := some (.halt .grantLost), backOff := none }
  waitsAuto : (s.axis a).state = .waitMotor ∨ (s.axis a).state = .waitGrant → (s.axis a).mode = .auto → t.axis a = s.axis a
  endsJog : (s.axis a).state = .waitMotor ∨ (s.axis a).state = .waitGrant ∨ (s.axis a).state = .standby → (s.axis a).mode = .jog →
    (t.axis a).state = .idle ∧ (t.axis a).plan = none ∧ (t.axis a).source = none ∧ (t.axis a).mode = .auto ∧
    (t.axis a).position = (s.axis a).position ∧ (t.axis a).known = (s.axis a).known ∧
    t.mot.sense = (if s.mot.sense = some a then none else s.mot.sense) ∧ t.load (axisRecord a) = none ∧
    Raised .panel ⟨.motionHalted, if a = .step then 0 else 1, 3, s.noticeClock⟩ s t
  keeps : ¬ ((s.axis a).mode = .jog ∧ ((s.axis a).state = .waitMotor ∨ (s.axis a).state = .waitGrant ∨ (s.axis a).state = .standby)) →
    t.load (axisRecord a) = some { l with phase := phase } ∧ t.mot.sense = s.mot.sense
  other : ∀ b, b ≠ a → t.axis b = s.axis b ∧ t.bridge b = s.bridge b

/-- The record of an axis is the only live one, and GRANTED; the other axis does not wait for the sense, and no lock retraction runs on the axis. -/
structure OnlyGranted (a : Axis) (l : Load) (s : State) : Prop where
  record : s.load (axisRecord a) = some l
  granted : l.isGranted = true
  alone : ∀ n, n ≠ axisRecord a → s.load n = none
  noWaiter : ∀ b, b ≠ a → (s.axis b).state ≠ .waitMotor
  notLock : (s.axis a).source ≠ some .lock

/-- The tier of a GRANTED record, as its number, and the age of its grant order (R46). -/
def State.grantAge (s : State) (n : Fin 14) : Option (Nat × Nat) :=
  match s.load n with
  | some l => match l.phase with
    | .granted o _ => some (l.tier.code, orderAge s.ldc.grantCounter o)
    | _ => none
  | none => none

/-- GRANTED record `m` is shed before GRANTED record `n`: LEISURE before COMFORT before ESSENTIAL, and the newest grant of a tier first (R57, R65). -/
def State.shedsBefore (s : State) (m n : Fin 14) : Bool :=
  match s.grantAge m, s.grantAge n with
  | some a, some b => decide (b.1 < a.1 ∨ (b.1 = a.1 ∧ a.2 < b.2))
  | _, _ => false

/-- A list holds, in their order, the records that are shed first of some. -/
structure State.ShedFirst (s : State) (among : Fin 14 → Bool) (l : List (Fin 14)) : Prop where
  within : ∀ n ∈ l, among n = true
  inOrder : l.Pairwise (fun m n => s.shedsBefore m n = true)
  first : ∀ n ∈ l, ∀ m, m ∉ l → among m = true → s.shedsBefore n m = true

/-- A GRANTED record that pre-emption may shed: its tier is LEISURE or COMFORT (R57). -/
def State.mayPreempt (s : State) (n : Fin 14) : Bool := (s.grantAge n).any (fun a => a.1 != Tier.essential.code)

/-- The counted currents of some records together. -/
def State.countedSum (s : State) (l : List (Fin 14)) : Nat := (l.map (fun n => countedCurrent (s.load n))).sum

/-- The records of a list leave GRANTED for PENDING with their restoring mark clear, everything else of them kept, and their drive goes to 0 at once
(R57, R65). The grant orders that stay may be renumbered (R46). -/
structure Shed (l : List (Fin 14)) (s t : State) : Prop where
  records : ∀ n ∈ l, (t.load n).map Load.unnumbered = (s.load n).map (fun r => { r with phase := .pending false }.unnumbered)
  drives : ∀ n ∈ l, t.out.target[n] = 0 ∧ t.out.level[n] = 0 ∧ t.out.compare[recordGate n] = 0

/-- A port after LOAD_SHED of the records of a list, in its order, each at its owner's port (R57, R65). -/
def State.shedNotices (s : State) (l : List (Fin 14)) (p : Port) (q : PortState) : PortState :=
  (l.filter (fun n => (s.load n).map (fun r => r.owner.port) == some p)).foldl
    (fun q n => q.push ⟨.loadShed, byteOf n.val, 0, s.noticeClock⟩) q

/-- A record whose loss or grant sets nothing going at MOT or at the dump valve: a master's record, or HEAT. -/
def plainRecord (n : Fin 14) : Bool := (recordAxis n).isNone && n != outPad && n != outDump

/-! ## CWC at the end of a passing slow scan -/

/-- A code that passes the plausibility check (R13). -/
def plausible (code : BitVec 12) : Bool := decide (60 ≤ code.toNat ∧ code.toNat ≤ 4035)

/-- The temperature of a code, clamped to -40.0 to +85.0 °C (R1). -/
def scanTemp (code : BitVec 12) : Int := max (-400) (min 850 ((code.toNat : Int) - 500))

/-- A held temperature after its channel was handed on (R135). -/
def heldAfter (code : BitVec 12) (h : HeldTemp) : HeldTemp :=
  if plausible code then ⟨some (scanTemp code), false⟩ else { h with degraded := true }

/-- The median buffer of a tank with one more code (R151). -/
def TankRec.bufferWith (r : TankRec) (code : BitVec 12) : List Nat :=
  (if r.buffer.length < 5 then r.buffer else r.buffer.drop 1) ++ [code.toNat]

/-- A level is formed: the code is plausible, and no freeze holds (R152). -/
def levelForms (code : BitVec 12) (s : State) : Prop := plausible code = true ∧ s.cwc.freeze = false

/-- The level that a tank's code forms with the buffer it joins (R151). -/
def levelFormed (k : Tank) (code : BitVec 12) (s : State) : Nat :=
  tankLevel (s.sto.live.tankTable k) (medianCode ((s.cwc.tank k).bufferWith code))

/-- One tank's level record after its channel was handed on (R151, R152). -/
structure TankTaken (k : Tank) (code : BitVec 12) (s t : State) : Prop where
  fault : (t.cwc.tank k).fault = !plausible code
  frozen : (t.cwc.tank k).frozen = (s.cwc.tank k).frozen
  formed : levelForms code s →
    (t.cwc.tank k).buffer = (s.cwc.tank k).bufferWith code ∧ (t.cwc.tank k).level = some (levelFormed k code s)
  kept : ¬ levelForms code s → (t.cwc.tank k).buffer = (s.cwc.tank k).buffer ∧ (t.cwc.tank k).level = (s.cwc.tank k).level

/-- The dry-run hold and the fresh notices after FRESH_LVL was handed on (R153). -/
structure FreshJudged (code : BitVec 12) (s t : State) : Prop where
  low : levelForms code s → levelFormed .fresh code s < s.sto.live.freshLow →
    t.ldc.dryRunHold = true ∧ t.cwc.freshLowArmed = false ∧
    (s.cwc.freshLowArmed = true → ∀ p, Raised p ⟨.tankLow, 0, BitVec.ofNat 16 (levelFormed .fresh code s), s.noticeClock⟩ s t)
  filled : levelForms code s → s.sto.live.freshLow + 3 ≤ levelFormed .fresh code s →
    t.ldc.dryRunHold = false ∧ t.cwc.freshLowArmed = true
  between : levelForms code s → s.sto.live.freshLow ≤ levelFormed .fresh code s →
    levelFormed .fresh code s < s.sto.live.freshLow + 3 →
    t.ldc.dryRunHold = s.ldc.dryRunHold ∧ t.cwc.freshLowArmed = s.cwc.freshLowArmed
  frozen : plausible code = true → s.cwc.freeze = true →
    t.ldc.dryRunHold = s.ldc.dryRunHold ∧ t.cwc.freshLowArmed = s.cwc.freshLowArmed
  faultEntered : plausible code = false → s.cwc.fresh.fault = false →
    t.ldc.dryRunHold = false ∧ t.cwc.freshLowArmed = s.cwc.freshLowArmed ∧ t.cwc.faultArmed = false ∧
    (s.cwc.faultArmed = true → ∀ p, Raised p ⟨.tankLow, 0, 255, s.noticeClock⟩ s t)
  faultStands : plausible code = false → s.cwc.fresh.fault = true →
    t.ldc.dryRunHold = s.ldc.dryRunHold ∧ t.cwc.freshLowArmed = s.cwc.freshLowArmed ∧ t.cwc.faultArmed = s.cwc.faultArmed
  faultEnds : plausible code = true → t.cwc.faultArmed = (s.cwc.faultArmed || s.cwc.fresh.fault)

/-- The grey notice after GREY_LVL was handed on (R154). -/
structure GreyJudged (code : BitVec 12) (s t : State) : Prop where
  full : levelForms code s → s.sto.live.greyFull ≤ levelFormed .grey code s → t.cwc.greyFullArmed = false ∧
    (s.cwc.greyFullArmed = true → ∀ p, Raised p ⟨.greyFull, 1, BitVec.ofNat 16 (levelFormed .grey code s), s.noticeClock⟩ s t)
  rearmed : levelForms code s → levelFormed .grey code s + 10 ≤ s.sto.live.greyFull → t.cwc.greyFullArmed = true
  between : levelForms code s → levelFormed .grey code s < s.sto.live.greyFull → s.sto.live.greyFull < levelFormed .grey code s + 10 →
    t.cwc.greyFullArmed = s.cwc.greyFullArmed
  kept : ¬ levelForms code s → t.cwc.greyFullArmed = s.cwc.greyFullArmed

/-- The dump valve after T_OUTSIDE was handed on, by the temperature then in use (R145 to R148). STARTUP is left for a closing, or dumps; no cold
tank stays closed; DUMPED stays. -/
structure ValveJudged (s t : State) : Prop where
  waits : s.cwc.dump = .startup → t.cwc.temp.value = none → t.cwc.dump = .startup
  closes : ∀ v, s.cwc.dump = .startup → t.cwc.temp.value = some v → s.cwc.storedClosed = true → s.sto.live.dumpThreshold + 10 < v →
    t.cwc.dump = .closing ∨ t.cwc.dump = .closed ∨ t.cwc.dump = .dumped
  dumps : ∀ v, s.cwc.dump = .startup → t.cwc.temp.value = some v →
    (s.cwc.storedClosed = false ∨ v ≤ s.sto.live.dumpThreshold + 10) →
    t.cwc.dump = .dumped ∧ t.ldc.dumpedHold = true ∧ t.load outDump = none ∧
    ∀ p, Raised p ⟨.frostDump, 0, BitVec.ofInt 16 v, s.noticeClock⟩ s t
  stays : s.cwc.dump ≠ .startup → t.cwc.dump ≠ .startup
  dumped : s.cwc.dump = .dumped → t.cwc.dump = .dumped
  notCold : t.cwc.dump = .closing ∨ t.cwc.dump = .closed → t.coldUnheated = false

/-- CWC after the seven slots of a passing slow scan were handed on, with the codes in list order from START_V (R135, R144 to R148, R151 to R154). -/
structure SlowScanAtCwc (codes : Vector (BitVec 12) 7) (s t : State) : Prop where
  fresh : TankTaken .fresh codes[1] s t
  grey : TankTaken .grey codes[2] s t
  freshJudged : FreshJudged codes[1] s t
  greyJudged : GreyJudged codes[2] s t
  tFresh : t.cwc.tFresh = heldAfter codes[3] s.cwc.tFresh
  tCabin : t.cwc.tCabin = heldAfter codes[4] s.cwc.tCabin
  tOutside : t.cwc.tOutside = heldAfter codes[5] s.cwc.tOutside
  temp : t.cwc.temp = if plausible codes[3] then .fresh (scanTemp codes[3])
    else if plausible codes[5] then .outside (scanTemp codes[5]) else .noSource
  padDuty : t.cwc.padDuty = match t.cwc.temp.value with
    | some v => (max 0 (min 255 ((50 - v) * 4))).toNat
    | none => 255
  padOff : t.cwc.padDuty = 0 → t.load outPad = none
  padOn : t.cwc.padDuty ≠ 0 → (t.load outPad).map Load.level = some t.cwc.padDuty
  valve : ValveJudged s t

/-! ## Replies -/

/-- The codes that mark a request carried out; every other code marks a refusal (R164). -/
def Status.carriedOut : Status → Bool
  | .ok => true
  | .clamped => true
  | .queued => true
  | _ => false

/-- A port after the taking of a frame whose handler changed nothing: HUNT, ANSWERING with the answer frame (R159 to R161). -/
def State.answering (s : State) (p : Port) (tag : Byte) (r : Reply) : State :=
  setAnswer p (some (answerFrame tag r)) (setReceive p .hunt s)

/-- The bytes of a frame come to a port one after another, each with its stop bit (R157). -/
def byteCommands (p : Port) (l : List Byte) : List Instr := l.map (fun b => .uartByteComplete p b true)

/-- A port that can take a frame: no answer is being sent, and the payload fits LEN (R157, R160). -/
def State.canTake (s : State) (f : Frame) : Prop := (s.port f.port).answer = none ∧ f.payload.length ≤ 56

/-- The ports other than one keep their state. -/
def othersKept (p : Port) (s t : State) : Prop := ∀ q, q ≠ p → t.port q = s.port q

/-! ## Settings and records in range -/

/-- Every scalar lies in the range of its owning rule (R3, R18, R44, R63, R67, R95, R137), and every table has its length and entries that its
bytes can carry. -/
def Settings.inRange (st : Settings) : Prop :=
  ∀ i, match st.get i with
    | .scalar v => i.range.1 ≤ v ∧ v ≤ i.range.2
    | .tier _ => True
    | .onOff _ => True
    | .factorTable l => l.length = 5 ∧ ∀ k ∈ l, k ≤ 256
    | .pointTable l => if i = .ocvTable then l.length = 8 ∧ ∀ q ∈ l, q.1 ≤ 20475 ∧ q.2 ≤ 1000
        else l.length = 6 ∧ ∀ q ∈ l, q.1 ≤ 4095 ∧ q.2 ≤ 100

end Sys2Proof.Machine
end

