-- ==== Sys2Proof/Certificates/Slice0/Obligations.lean ====
section
/-! DEFINITION. The statements for the provers. -/

open Sys2Proof Sys2Proof.Machine

/-! ## The queue, resets and start-up -/

/-- A step with a command at the front of the queue is exec of that command with the queue's rest. -/
def Obligations.StepRunsFrontCommand : Prop :=
  ∀ (c : Instr) (rest : List Instr) (s : State), step { s with pending := c :: rest } = exec c { s with pending := rest }

/-- The model's choice (log 2): on an empty queue, with no call of its own waiting, the timebase advances by one count and wraps at 254. -/
def Obligations.IdleStepAdvancesTimebase : Prop :=
  ∀ s : State, s.pending = [] → s.calls = [] →
    step s = .next { s with out := if s.out.timebase < 254 then { s.out with timebase := s.out.timebase + 1 } else loadWaiting s.out }

/-- Either reset, from every state, leaves every block at the values its chapter lists (R15, R17, R43, R46, R68, R69, R79, R92, R94, R100, R118, R122,
R127, R136, R156, R170, R175 step (1)); a write under way spoils the stored record, and otherwise it is kept (R174). The model's: the pins keep their
levels (log 10), and the commands that wait stay (log 29). -/
def Obligations.ResetsLeaveEveryBlockReset : Prop :=
  ∀ s : State, ∃ t : State,
    exec .powerOnReset s = .next t ∧ exec .resetn s = .next { t with sto := { t.sto with cause := .resetn } } ∧
    -- STO and start-up
    t.sto.cause = .powerOn ∧ t.sto.recordGood = false ∧ t.sto.writing = none ∧ t.sto.heldCheckpoint = false ∧ t.sto.writeCount = 0 ∧
    t.sto.phase = .reading ∧
    (s.sto.writing = none → t.sto.stored = s.sto.stored) ∧ (s.sto.writing ≠ none → readRecord t.sto.stored = none) ∧
    -- SCV
    t.scv.timers = false ∧ t.scv.inFlight = none ∧ t.scv.fastGroup = none ∧ t.scv.slowScan = none ∧ t.scv.buffer = [] ∧
    t.scv.missed = 0 ∧ t.scv.refFault = false ∧ t.scv.overrun = false ∧ t.scv.saturated = false ∧
    (∀ ch : Fin 11, t.scv.slots[ch] = ⟨none, false, false⟩) ∧ (∀ ch, t.slotValue ch = none) ∧
    -- CHG
    t.chg.accountSet = false ∧ t.chg.temp = none ∧ t.chg.minuteAcc = 0 ∧ t.chg.periodCount = 0 ∧ t.chg.minuteRing = [] ∧ t.chg.minuteSeq = 0 ∧
    t.chg.hourRing = [] ∧ t.chg.hourSeq = 0 ∧ t.chg.pushesSinceHour = 0 ∧ t.chg.checkpointPushes = 0 ∧ t.chg.lowSoc = none ∧
    t.chg.lowOutside = none ∧ t.chg.suspectRun = 0 ∧ t.chg.ttf = 65535 ∧ t.chg.rest = .timing 0 ∧ t.chg.fullTimer = 0 ∧
    t.chg.fullArmed = true ∧ t.chg.lvd = false ∧ t.chg.lvdCount = 0 ∧ t.chg.critical = false ∧ t.chg.criticalCount = 0 ∧
    t.chg.supply = false ∧ t.chg.supplyCount = 0 ∧
    -- LDC
    (∀ n, t.load n = none) ∧ t.ldc.gateOpen = ⟨true, true, true⟩ ∧ t.ldc.soc = none ∧ t.ldc.lvd = false ∧ t.ldc.critical = false ∧
    t.ldc.supply = false ∧ t.ldc.engine = false ∧ t.ldc.dryRunHold = false ∧ t.ldc.dumpedHold = false ∧ t.ldc.stampCounter = 0 ∧
    t.ldc.grantCounter = 0 ∧
    -- OUT
    t.out.timebase = 0 ∧ (∀ g : Fin 16, t.out.compare[g] = 0 ∧ t.out.waiting[g] = none) ∧
    (∀ n : Fin 14, t.out.target[n] = 0 ∧ t.out.level[n] = 0) ∧ (∀ a, t.bridge a = ⟨.coast, .coast, 0, false⟩) ∧
    -- MOT
    (∀ a, (t.axis a).state = .idle ∧ (t.axis a).position = 0 ∧ (t.axis a).known = false ∧ (t.axis a).plan = none ∧ (t.axis a).mode = .auto ∧
      (t.axis a).source = none ∧ (t.axis a).jogPort = none ∧ (t.axis a).jogLive = false ∧ (t.axis a).standbyTimer = false ∧
      (t.axis a).faultKind = none ∧ (t.axis a).countDir = none ∧ (t.axis a).lastPulse = false ∧ (t.axis a).firstPulse = false ∧
      (t.axis a).pulsePeriod = 0 ∧ (t.axis a).overCount = 0 ∧ (t.axis a).continuation = none ∧ (t.axis a).backOff = none ∧
      (t.axis a).held = none) ∧
    t.mot.sense = none ∧ t.mot.windCount = 0 ∧ t.mot.prevAbove = false ∧ t.mot.windHold = false ∧ t.mot.calmTimer = false ∧
    t.mot.stopn = s.mot.stopn ∧ t.mot.entryOpen = s.mot.entryOpen ∧
    -- DLU
    t.dlu.ignition = false ∧ t.dlu.engine = false ∧ t.dlu.moving = false ∧ t.dlu.stale = false ∧ t.dlu.engineInForce = false ∧
    t.dlu.age = none ∧ t.dlu.staleTimer = false ∧ t.dlu.lock = .free ∧ t.dlu.lockFault = false ∧ t.dlu.stepMark = false ∧
    t.dlu.awningMark = false ∧
    -- CWC
    t.cwc.demand = false ∧ t.cwc.minOff = none ∧ t.cwc.tFresh = ⟨none, false⟩ ∧ t.cwc.tCabin = ⟨none, false⟩ ∧
    t.cwc.tOutside = ⟨none, false⟩ ∧ t.cwc.temp = .notFormed ∧ t.cwc.padDuty = 0 ∧ t.cwc.dump = .startup ∧
    t.cwc.fresh = ⟨none, false, false, []⟩ ∧ t.cwc.grey = ⟨none, false, false, []⟩ ∧ t.cwc.freshLowArmed = true ∧
    t.cwc.faultArmed = true ∧ t.cwc.greyFullArmed = true ∧ t.cwc.freeze = false ∧
    -- the ports, the notice clock, what waits
    (∀ p, t.port p = ⟨.hunt, none, [], false⟩) ∧ t.noticeClock = 0 ∧ t.calls = [] ∧ t.pending = s.pending

/-- Start-up steps (2) and (3) (R16, R17, R63, R136, R175, R176). A GOOD record gives the live settings, the image, the scenes, the mode, the target and
the account, with C clamped to Cap and SoC formed from it. A BAD record gives the defaults, empty scenes, FROST and 200, and leaves the account unset
with status ESTIMATED. Both timers start, either expiry first (R4). -/
def Obligations.StoreReadLoadsTheRecord : Prop :=
  ∀ (fastFirst : Bool) (s : State), s.sto.phase = .reading → s.Settled →
    s.scv.fastGroup = none → s.scv.slowScan = none → s.scv.inFlight = none →
    let started := { s.scv with timers := true, fastGroup := some 0, slowScan := some 0, buffer := [],
                                inFlight := some (if fastFirst then .fast else .slow) }
    (readRecord s.sto.stored = none → s.ldc.supply = false → s.ldc.engine = false → s.ldc.budget = 1000 →
      exec (.storeReadComplete fastFirst) s = .next { s with
        scv := started
        chg := { s.chg with rest := .timing 0, synced := false }
        ldc := { s.ldc with scenes := Vector.replicate 8 [] }
        cwc := { s.cwc with setMode := .frost, effMode := .frost, target := 200, storedClosed := false }
        sto := { s.sto with live := .default, image := .default, imageScenes := Vector.replicate 8 [], recordGood := false,
                            phase := .scanning } }) ∧
    (∀ q, readRecord s.sto.stored = some q →
      ∃ t, exec (.storeReadComplete fastFirst) s = .next t ∧ t.scv = started ∧
        t.sto = { s.sto with live := q.settings, image := q.settings, imageScenes := q.scenes, recordGood := true, phase := .scanning } ∧
        t.ldc.scenes = q.scenes ∧ t.ldc.budget = q.settings.batteryLimit + (if s.ldc.supply then q.settings.shoreAllowance else 0)
          + (if s.ldc.engine then q.settings.alternatorAllowance else 0) ∧
        t.cwc.setMode = q.setMode ∧ t.cwc.effMode = q.setMode ∧ t.cwc.target = q.target ∧ t.cwc.storedClosed = q.closed ∧
        t.chg.accountSet = true ∧ t.chg.content = min q.content q.settings.cap ∧ t.chg.residue = 0 ∧ t.chg.synced = q.synced ∧
        t.chg.soc = min 1000 (t.chg.content * 1000 / t.usable) ∧ t.chg.rest = (if q.settings.ocvEnable then .timing 0 else .idle) ∧
        t.noticeClock = s.noticeClock ∧ t.pending = s.pending)

/-- Reading what a write stored gives back the image, the scenes, the heating part and the checkpoint part (R170, R176, R181), for
settings in range. -/
def Obligations.StoredRecordReadsBack : Prop :=
  ∀ s : State, s.sto.image.inRange → s.sto.image.tier[8] = .essential → s.sto.image.tier[9] = .essential →
    (∀ k : Fin 8, (s.sto.imageScenes[k]).length ≤ 8) → s.cwc.setMode ≠ .fallback → 100 ≤ s.cwc.target → s.cwc.target ≤ 280 →
    s.chg.content ≤ 800000 →
    readRecord (.written (recordBytes s)) = some
      { settings := s.sto.image, scenes := s.sto.imageScenes, setMode := s.cwc.setMode, target := s.cwc.target
        content := if s.chg.accountSet then s.chg.content else 0, synced := s.chg.accountSet && s.chg.synced
        closed := s.cwc.dump == .closed }

/-! ## Scanning -/

/-- A fast-trigger expiry (R5): with no group in progress one starts at HOUSE_I, and takes an idle converter (R4); with one in progress it is
dropped and counted, to at most 255. -/
def Obligations.FastTriggerStartsOrDrops : Prop :=
  ∀ s : State, s.scv.timers = true →
    (s.scv.fastGroup = none → exec .fastTriggerExpiry s = .next { s with scv := { s.scv with
      fastGroup := some 0, inFlight := if s.scv.inFlight = none then some .fast else s.scv.inFlight } }) ∧
    (s.scv.fastGroup ≠ none → exec .fastTriggerExpiry s = .next { s with scv := { s.scv with missed := min 255 (s.scv.missed + 1) } })

/-- A slow-trigger expiry (R8): a scan starts at START_V with an emptied buffer, and takes an idle converter unless a fast group goes first;
with a scan in progress it is dropped and sets the overrun mark. -/
def Obligations.SlowTriggerStartsOrOverruns : Prop :=
  ∀ s : State, s.scv.timers = true →
    (s.scv.slowScan = none → exec .slowTriggerExpiry s = .next { s with scv := { s.scv with
      slowScan := some 0, buffer := []
      inFlight := if s.scv.inFlight = none then some (if s.scv.fastGroup = none then .slow else .fast) else s.scv.inFlight } }) ∧
    (s.scv.slowScan ≠ none → exec .slowTriggerExpiry s = .next { s with scv := { s.scv with overrun := true } })

/-- A slow conversion stores its code and moves the list on; a waiting fast group goes first (R9, R4). -/
def Obligations.SlowConversionStoresCode : Prop :=
  ∀ (code : BitVec 12) (k : Fin 8) (s : State), s.scv.inFlight = some .slow → s.scv.slowScan = some k → k ≠ 7 →
    exec (.slowConversionComplete code) s = .next { s with scv := { s.scv with
      slowScan := some (k + 1), buffer := s.scv.buffer ++ [code]
      inFlight := some (if s.scv.fastGroup = none then .slow else .fast) } }

/-- A fast conversion writes its slot, VALID with its code and value, suspect exactly while a reference fault stands, leaves the other slots,
and hands the converter on (R1, R4, R6, R12). -/
def Obligations.FastConversionWritesItsSlot : Prop :=
  ∀ (code : BitVec 12) (ch : Fin 4) (s : State), s.scv.inFlight = some .fast → s.scv.fastGroup = some ch →
    ∃ t, exec (.fastConversionComplete code) s = .next t ∧
      t.scv.slots[ch.val] = { s.scv.slots[ch.val] with
        reading := some (code, if ch = 0 then clampInt (-2048) 2047 ((code.toNat : Int) - 2048 - s.sto.live.zeroOffset)
          else if ch = 2 then (code.toNat : Int) else (code.toNat : Int) * 5)
        suspect := s.scv.refFault } ∧
      (∀ k : Fin 11, k.val ≠ ch.val → t.scv.slots[k] = s.scv.slots[k]) ∧
      t.scv.fastGroup = (if ch = 3 then none else some (ch + 1)) ∧
      t.scv.inFlight = (if ch = 3 then (if s.scv.slowScan = none then none else some .slow) else some .fast) ∧
      t.scv.slowScan = s.scv.slowScan ∧ t.scv.buffer = s.scv.buffer ∧ t.scv.refFault = s.scv.refFault ∧
      t.scv.missed = (if ch = 0 then 0 else s.scv.missed) ∧
      t.scv.saturated = (s.scv.saturated || decide (ch = 0 ∧ (code = 0 ∨ code = 4095))) ∧
      t.noticeClock = s.noticeClock ∧ t.pending = s.pending

/-- A passing REFCHK (R10, R13): the reference fault ends; START_V takes its code; a channel whose code is below 60 or above 4035 keeps its
reading and is marked, another takes code and value unmarked; the fast slots stay; the scan ends and R4 settles the converter. CWC takes the codes
handed on: the held temperatures and the temperature in use (R135), the pad (R144), the dump valve (R145 to R148), the tank levels with their median
buffers (R151, R152), the dry-run hold and the tank notices (R153, R154). The end of a reference fault, and each channel whose fault begins or
ends, raise their notice at every port (R10, R13). CHG takes T_BATT with the SoC that follows, and the lowest T_OUTSIDE (R23, R24, R27). -/
def Obligations.PassingRefchkWritesSlowSlots : Prop :=
  ∀ (result : BitVec 13) (codes : Vector (BitVec 12) 7) (s : State),
    s.scv.inFlight = some .slow → s.scv.slowScan = some 7 → s.scv.buffer = codes.toList →
    4014 ≤ result.toNat → result.toNat ≤ 4178 →
    ∃ t, exec (.refchkComplete result) s = .next t ∧ t.scv.refFault = false ∧
      t.scv.slots[4].reading = some (codes[0], (codes[0].toNat : Int) * 5) ∧
      (∀ k : Fin 6,
        let code := codes[k.val + 1]
        let before := s.scv.slots[k.val + 5]
        let after := t.scv.slots[k.val + 5]
        if code.toNat < 60 ∨ 4035 < code.toNat then after.reading = before.reading ∧ after.fault = true
        else after.reading = some (code, if k.val < 2 then (code.toNat : Int) else clampInt (-400) 850 ((code.toNat : Int) - 500))
          ∧ after.fault = false) ∧
      (∀ k : Fin 4, t.scv.slots[k.val] = s.scv.slots[k.val]) ∧
      t.scv.slowScan = none ∧ t.scv.fastGroup = s.scv.fastGroup ∧
      t.scv.inFlight = (if s.scv.fastGroup = none then none else some .fast) ∧
      t.scv.missed = s.scv.missed ∧ t.scv.overrun = s.scv.overrun ∧ t.scv.saturated = s.scv.saturated ∧
      (s.scv.refFault = true → ∀ p, Raised p ⟨.referenceFault, 0, 0, s.noticeClock⟩ s t) ∧
      (∀ k : Fin 6, s.scv.slots[k.val + 5].fault = plausible codes[k.val + 1] →
        ∀ p, Raised p ⟨.sensorFault, byteOf (k.val + 5), if plausible codes[k.val + 1] then 0 else 1, s.noticeClock⟩ s t) ∧
      t.chg.temp = (if plausible codes[6] then some (scanTemp codes[6]) else s.chg.temp) ∧
      t.chg.lowOutside = (if plausible codes[5] then some (min (scanTemp codes[5]) (s.chg.lowOutside.getD (scanTemp codes[5])))
        else s.chg.lowOutside) ∧
      t.chg.content = s.chg.content ∧ t.chg.residue = s.chg.residue ∧ t.chg.synced = s.chg.synced ∧
      t.chg.soc = (if s.chg.accountSet then min 1000 (t.chg.content * 1000 / t.usable) else s.chg.soc) ∧
      (s.sto.phase = .scanning → t.sto.phase = .ready) ∧ SlowScanAtCwc codes s t ∧ t.noticeClock = s.noticeClock ∧ t.pending = s.pending

/-- A failing REFCHK (R11): every code of the scan buffer is discarded, no slow slot is written or handed on; the first failure enters the fault with its notice at every port. -/
def Obligations.FailingRefchkDiscardsScan : Prop :=
  ∀ (result : BitVec 13) (s : State), s.scv.inFlight = some .slow → s.scv.slowScan = some 7 → s.Settled →
    (result.toNat < 4014 ∨ 4178 < result.toNat) →
    ∃ t, exec (.refchkComplete result) s = .next t ∧
      t.scv = { s.scv with
        refFault := true, slowScan := none, buffer := [], inFlight := if s.scv.fastGroup = none then none else some .fast } ∧
      (∀ p, t.port p = if s.scv.refFault then s.port p else (s.port p).push ⟨.referenceFault, 0, 1, s.noticeClock⟩) ∧
      t.sto = { s.sto with phase := if s.sto.phase = .scanning then .ready else s.sto.phase } ∧
      t.chg = s.chg ∧ t.ldc = s.ldc ∧ t.out = s.out ∧ t.mot = s.mot ∧ t.dlu = s.dlu ∧ t.cwc = s.cwc ∧
      t.noticeClock = s.noticeClock ∧ t.calls = s.calls ∧ t.pending = s.pending

/-! ## Charge -/

/-- A HOUSE_I sample with rest calibration off, no charger and a period count that reaches no minute. Not suspect and with no missed period: the
residue and the content follow the four steps of R20, with the carry and the clamps, and the minute accumulator takes d. With m missed periods: the
same is done m + 1 times, each carry and clamp before the next (R21). A suspect sample is not integrated, whatever rest, charger and periods: its
periods count, toward the minute push and the suspect run, whose passing of 6,000 makes the status ESTIMATED; rest and full sync start anew
(R22). Before the account is set d is added and counted, and nothing else (R19). With rest calibration on, the sample and its periods are judged after
the integration: the rest timer runs, opens the window at its period or is 0 above the threshold (R30); the window counts its periods, closes at 1,600
with the account set from its mean (R31, R32), or as an excursion (R33). The full-sync timer runs while the charger is present, HOUSE_V is at the full
voltage and d is from 0 to the tail current; at 30,000 the account is full, and else it is 0 and armed (R35). -/
def Obligations.HouseCurrentIsIntegrated : Prop :=
  (∀ (code : BitVec 12) (s : State), s.scv.inFlight = some .fast → s.scv.fastGroup = some 0 → s.scv.refFault = false →
    s.scv.missed = 0 → s.chg.accountSet = true → s.chg.rest = .idle → s.chg.supply = false → s.chg.periodCount + 1 < 6000 →
    let d := clampInt (-2048) 2047 ((code.toNat : Int) - 2048 - s.sto.live.zeroOffset)
    let r := s.chg.residue + (if 0 < d then d * s.sto.live.eta else d * 256)
    ∃ t, exec (.fastConversionComplete code) s = .next t ∧
      (-921600 < r → r < 921600 → t.chg.content = s.chg.content ∧ t.chg.residue = r ∧ t.chg.soc = s.chg.soc) ∧
      (921600 ≤ r → s.chg.content + 1 ≤ s.sto.live.cap → t.chg.content = s.chg.content + 1 ∧ t.chg.residue = r - 921600) ∧
      (921600 ≤ r → s.sto.live.cap < s.chg.content + 1 → t.chg.content = s.sto.live.cap ∧ t.chg.residue = 0) ∧
      (r ≤ -921600 → 0 < s.chg.content → t.chg.content = s.chg.content - 1 ∧ t.chg.residue = r + 921600) ∧
      (r ≤ -921600 → s.chg.content = 0 → t.chg.content = 0 ∧ t.chg.residue = 0) ∧
      (921600 ≤ r ∨ r ≤ -921600 → t.chg.soc = min 1000 (t.chg.content * 1000 / s.usable)) ∧
      t.chg.minuteAcc = s.chg.minuteAcc + d ∧ t.chg.periodCount = s.chg.periodCount + 1 ∧ t.chg.suspectRun = 0 ∧
      t.chg.minuteRing = s.chg.minuteRing ∧ t.chg.hourRing = s.chg.hourRing ∧ t.chg.synced = s.chg.synced ∧
      t.sto = s.sto ∧ t.noticeClock = s.noticeClock ∧ t.pending = s.pending) ∧
  (∀ (code : BitVec 12) (s : State), s.scv.inFlight = some .fast → s.scv.fastGroup = some 0 → s.scv.refFault = false →
    s.chg.accountSet = true → s.chg.rest = .idle → s.chg.supply = false → s.chg.periodCount + (s.scv.missed + 1) < 6000 →
    let d := clampInt (-2048) 2047 ((code.toNat : Int) - 2048 - s.sto.live.zeroOffset)
    let once := fun q : Nat × Int =>
      let r := q.2 + (if 0 < d then d * s.sto.live.eta else d * 256)
      if 921600 ≤ r then (if q.1 + 1 ≤ s.sto.live.cap then (q.1 + 1, r - 921600) else (s.sto.live.cap, 0))
      else if r ≤ -921600 then (if 0 < q.1 then (q.1 - 1, r + 921600) else (0, 0))
      else (q.1, r)
    ∃ t, exec (.fastConversionComplete code) s = .next t ∧
      (t.chg.content, t.chg.residue) = once^[s.scv.missed + 1] (s.chg.content, s.chg.residue) ∧
      (t.chg.content ≠ s.chg.content → t.chg.soc = min 1000 (t.chg.content * 1000 / s.usable)) ∧
      t.chg.minuteAcc = s.chg.minuteAcc + (s.scv.missed + 1 : Nat) * d ∧ t.chg.periodCount = s.chg.periodCount + (s.scv.missed + 1) ∧
      t.chg.suspectRun = 0 ∧ t.scv.missed = 0 ∧ t.chg.minuteRing = s.chg.minuteRing ∧ t.chg.hourRing = s.chg.hourRing ∧
      t.chg.synced = s.chg.synced ∧ t.sto = s.sto ∧ t.noticeClock = s.noticeClock ∧ t.pending = s.pending) ∧
  (∀ (code : BitVec 12) (s : State), s.Settled → s.scv.inFlight = some .fast → s.scv.fastGroup = some 0 → s.scv.refFault = true →
    let n := s.scv.missed + 1
    let ring := (if s.chg.minuteRing.length < 60 then s.chg.minuteRing else s.chg.minuteRing.drop 1) ++ [s.chg.minuteAcc]
    ∃ t, exec (.fastConversionComplete code) s = .next t ∧
      t.chg.content = s.chg.content ∧ t.chg.residue = s.chg.residue ∧ t.chg.soc = s.chg.soc ∧ t.chg.accountSet = s.chg.accountSet ∧
      t.chg.suspectRun = min 65535 (s.chg.suspectRun + n) ∧
      t.chg.synced = (if s.chg.suspectRun ≤ 6000 ∧ 6000 < s.chg.suspectRun + n then false else s.chg.synced) ∧
      t.chg.rest = (if s.chg.rest = .idle then .idle else .timing 0) ∧ t.chg.fullTimer = 0 ∧ t.chg.fullArmed = true ∧ t.scv.missed = 0 ∧
      (s.chg.periodCount + n < 6000 → t.chg.periodCount = s.chg.periodCount + n ∧ t.chg.minuteAcc = s.chg.minuteAcc ∧
        t.chg.minuteRing = s.chg.minuteRing ∧ t.chg.hourRing = s.chg.hourRing ∧ t.sto = s.sto) ∧
      (s.chg.periodCount < 6000 → 6000 ≤ s.chg.periodCount + n → n ≤ 6000 → s.chg.pushesSinceHour + 1 < 60 →
        s.chg.checkpointPushes + 1 < 15 → t.chg.periodCount = s.chg.periodCount + n - 6000 ∧ t.chg.minuteAcc = 0 ∧
          t.chg.minuteRing = ring ∧ t.chg.minuteSeq = s.chg.minuteSeq + 1 ∧ t.sto = s.sto) ∧
      t.ldc = s.ldc ∧ t.out = s.out ∧ t.mot = s.mot ∧ t.dlu = s.dlu ∧ t.cwc = s.cwc ∧ (∀ p, t.port p = s.port p) ∧
      t.noticeClock = s.noticeClock ∧ t.pending = s.pending) ∧
  ∀ (code : BitVec 12) (s : State), s.scv.inFlight = some .fast → s.scv.fastGroup = some 0 → s.scv.refFault = false →
    s.chg.periodCount + (s.scv.missed + 1) < 6000 →
    let n := s.scv.missed + 1
    let d := clampInt (-2048) 2047 ((code.toNat : Int) - 2048 - s.sto.live.zeroOffset)
    let once := fun q : Nat × Int =>
      let r := q.2 + (if 0 < d then d * s.sto.live.eta else d * 256)
      if 921600 ≤ r then (if q.1 + 1 ≤ s.sto.live.cap then (q.1 + 1, r - 921600) else (s.sto.live.cap, 0))
      else if r ≤ -921600 then (if 0 < q.1 then (q.1 - 1, r + 921600) else (0, 0))
      else (q.1, r)
    let integrated := once^[n] (s.chg.content, s.chg.residue)
    let small := d.natAbs ≤ s.sto.live.restThreshold
    let full := s.chg.supply = true ∧ (∃ v, s.slotValue 1 = some v ∧ s.sto.live.fullVoltage ≤ v) ∧ 0 ≤ d ∧ d ≤ s.sto.live.tailCurrent
    let counted := fun t : State => t.chg.minuteAcc = s.chg.minuteAcc + n * d ∧ t.chg.periodCount = s.chg.periodCount + n ∧
      t.chg.suspectRun = 0 ∧ t.scv.missed = 0 ∧ t.sto = s.sto ∧ t.noticeClock = s.noticeClock ∧ t.pending = s.pending
    let goesOn := fun (rest : Rest) (t : State) =>
      (t.chg.content, t.chg.residue) = integrated ∧ t.chg.synced = s.chg.synced ∧ t.chg.rest = rest
    (s.chg.accountSet = false → s.Settled → ∃ t, exec (.fastConversionComplete code) s = .next t ∧
      t.chg = { s.chg with
        suspectRun := 0, minuteAcc := s.chg.minuteAcc + n * d, periodCount := s.chg.periodCount + n } ∧
      t.scv.missed = 0 ∧ t = { s with scv := t.scv, chg := t.chg }) ∧
    (∀ timer, s.chg.accountSet = true → s.chg.supply = false → s.chg.rest = .timing timer →
      ∃ t, exec (.fastConversionComplete code) s = .next t ∧ counted t ∧
        goesOn (if ¬ small then .timing 0 else if timer + n < s.sto.live.restPeriod * 6000 then .timing (timer + n) else .averaging 0 0 0) t) ∧
    (∀ sum count periods, s.chg.accountSet = true → s.chg.supply = false → s.chg.rest = .averaging sum count periods → 0 < count →
      let estimate := ocvEstimate s.sto.live.ocvTable (sum / count)
      ∃ t, exec (.fastConversionComplete code) s = .next t ∧ counted t ∧
        (small → periods + n < 1600 → goesOn (.averaging sum count (periods + n)) t) ∧
        (small → 1600 ≤ periods + n → t.chg.content = estimate * s.usable / 1000 ∧ t.chg.residue = 0 ∧ t.chg.synced = true ∧
          t.chg.rest = .timing 0 ∧ t.chg.soc = min 1000 (t.chg.content * 1000 / s.usable) ∧
          ∀ p, Raised p ⟨.chargeSync, 0, BitVec.ofInt 16 estimate, s.noticeClock⟩ s t) ∧
        (¬ small → goesOn (.timing 0) t ∧ ∀ p, Raised p ⟨.chargeSync, 1, BitVec.ofInt 16 estimate, s.noticeClock⟩ s t)) ∧
    (s.chg.accountSet = true → s.chg.rest = .idle →
      ∃ t, exec (.fastConversionComplete code) s = .next t ∧ counted t ∧
        (¬ full → goesOn .idle t ∧ t.chg.fullTimer = 0 ∧ t.chg.fullArmed = true) ∧
        (full → s.chg.fullArmed = false → goesOn .idle t ∧ t.chg.fullTimer = s.chg.fullTimer ∧ t.chg.fullArmed = false) ∧
        (full → s.chg.fullArmed = true → s.chg.fullTimer + n < 30000 →
          goesOn .idle t ∧ t.chg.fullTimer = s.chg.fullTimer + n ∧ t.chg.fullArmed = true) ∧
        (full → s.chg.fullArmed = true → 30000 ≤ s.chg.fullTimer + n →
          t.chg.content = min s.usable s.sto.live.cap ∧ t.chg.residue = 0 ∧ t.chg.synced = true ∧ t.chg.rest = .idle ∧
          t.chg.fullArmed = false ∧ t.chg.soc = min 1000 (t.chg.content * 1000 / s.usable) ∧
          ∀ p, Raised p ⟨.chargeSync, 2, 1000, s.noticeClock⟩ s t))

/-- Values below the threshold raise an alarm at the tenth in succession and not before, and values at or above the threshold + 600 end it at
the hundredth in succession and not before; a value that is not so sets the counter to 0 (R37). At each HOUSE_V value handed on both alarms are
counted so, and a change of either is handed to LDC (R38). -/
def Obligations.AlarmsCountInSuccession : Prop :=
  (∀ (threshold : Nat) (values : List Nat),
    ((∀ v ∈ values, v < threshold) → values.length ≤ 10 →
      values.foldl (fun q v => alarmCount q.1 q.2 v threshold) (false, 0) =
        if values.length = 10 then (true, 0) else (false, values.length)) ∧
    ((∀ v ∈ values, threshold + 600 ≤ v) → values.length ≤ 100 →
      values.foldl (fun q v => alarmCount q.1 q.2 v threshold) (true, 0) =
        if values.length = 100 then (false, 0) else (true, values.length))) ∧
  (∀ threshold count v : Nat,
    (threshold ≤ v → alarmCount false count v threshold = (false, 0)) ∧
    (v < threshold + 600 → alarmCount true count v threshold = (true, 0))) ∧
  (∀ (code : BitVec 12) (s : State), s.scv.inFlight = some .fast → s.scv.fastGroup = some 1 →
    let mv := code.toNat * 5
    let judged := fun (active : Bool) (count threshold : Nat) (active' : Bool) (count' : Nat) =>
      (active = false → threshold ≤ mv → active' = false ∧ count' = 0) ∧
      (active = false → mv < threshold → count < 9 → active' = false ∧ count' = count + 1) ∧
      (active = false → mv < threshold → 9 ≤ count → active' = true ∧ count' = 0) ∧
      (active = true → mv < threshold + 600 → active' = true ∧ count' = 0) ∧
      (active = true → threshold + 600 ≤ mv → count < 99 → active' = true ∧ count' = count + 1) ∧
      (active = true → threshold + 600 ≤ mv → 99 ≤ count → active' = false ∧ count' = 0)
    ∃ t, exec (.fastConversionComplete code) s = .next t ∧
      judged s.chg.lvd s.chg.lvdCount s.sto.live.lvdVoltage t.chg.lvd t.chg.lvdCount ∧
      judged s.chg.critical s.chg.criticalCount s.sto.live.criticalVoltage t.chg.critical t.chg.criticalCount ∧
      (t.chg.lvd ≠ s.chg.lvd ∨ t.chg.critical ≠ s.chg.critical → t.ldc.lvd = t.chg.lvd ∧ t.ldc.critical = t.chg.critical) ∧
      (s.chg.accountSet = true →
        t.chg.content = s.chg.content ∧ t.chg.residue = s.chg.residue ∧ t.chg.soc = s.chg.soc ∧ t.chg.synced = s.chg.synced) ∧
      t.noticeClock = s.noticeClock ∧ t.pending = s.pending)

/-- A minute push that is neither the sixtieth nor the fifteenth (R26): the accumulator joins the ring of sixty, and TTF follows from the ring
and C as R29 gives it. -/
def Obligations.MinutePushAppendsEntry : Prop :=
  ∀ s : State, s.chg.pushesSinceHour + 1 < 60 → s.chg.checkpointPushes + 1 < 15 →
    let ring := (if s.chg.minuteRing.length < 60 then s.chg.minuteRing else s.chg.minuteRing.drop 1) ++ [s.chg.minuteAcc]
    let mean := Int.tdiv ring.sum (ring.length * 60)
    let floorC := s.sto.live.floorEssential * s.usable / 1000
    exec .minutePush s = .next { s with chg := { s.chg with
      minuteRing := ring, minuteAcc := 0, minuteSeq := s.chg.minuteSeq + 1, periodCount := 0
      ttf := if 0 ≤ mean then 65535 else if s.chg.content ≤ floorC then 0 else min 65534 ((s.chg.content - floorC) * 60 / mean.natAbs)
      pushesSinceHour := s.chg.pushesSinceHour + 1, checkpointPushes := s.chg.checkpointPushes + 1 } }

/-- The hour push (R27): net charge, the two lowest values, the ring of twenty-four. -/
def Obligations.HourPushAppendsEntry : Prop :=
  ∀ s : State, exec .hourPush s = .next { s with chg := { s.chg with
    hourRing := (if s.chg.hourRing.length < 24 then s.chg.hourRing else s.chg.hourRing.drop 1)
      ++ [⟨Int.tdiv s.chg.minuteRing.sum 3600, s.chg.lowSoc, s.chg.lowOutside⟩]
    hourSeq := s.chg.hourSeq + 1, pushesSinceHour := 0
    lowSoc := if s.chg.accountSet then some s.chg.soc else none, lowOutside := none } }

/-- The suspect run limit makes the status ESTIMATED (R22); the averaging window opens empty from TIMING (R30). -/
def Obligations.SuspectLimitAndRestWindow : Prop :=
  (∀ s : State, exec .suspectRunLimit s = .next { s with chg := { s.chg with synced := false } }) ∧
  (∀ (s : State) (n : Nat), s.chg.rest = .timing n →
    exec .restWindowOpen s = .next { s with chg := { s.chg with rest := .averaging 0 0 0 } })

/-- A window that closes normally sets the account from the OCV estimate of its mean, SYNCED, with CHARGE_SYNC subject 0 first at every port
(R32, R24); the SoC, where it changed, is handed to LDC, which judges the energy gates at it (R68) and with them masters' records, gated, restored and
driven again (R71, R75 to R78). That the notice stands first, ahead of the notices
of LDC's event, is the model's reading (log 13, 9 section 9.9). -/
def Obligations.RestWindowCloseSetsAccount : Prop :=
  ∀ (s : State) (sum count periods : Nat), s.chg.rest = .averaging sum count periods → 0 < count → s.chg.accountSet = true →
    let estimate := ocvEstimate s.sto.live.ocvTable (sum / count)
    ∃ t, exec .restWindowClose s = .next t ∧ t.chg.content = estimate * s.usable / 1000 ∧ t.chg.residue = 0 ∧ t.chg.synced = true ∧
      t.chg.soc = min 1000 (t.chg.content * 1000 / s.usable) ∧ t.chg.rest = .timing 0 ∧ t.chg.fullTimer = s.chg.fullTimer ∧
      (∀ p, ((s.port p).push ⟨.chargeSync, 0, BitVec.ofInt 16 estimate, s.noticeClock⟩).Grown (t.port p)) ∧ SocHandedOn s t ∧
      t.scv = s.scv ∧ t.sto = s.sto ∧ t.noticeClock = s.noticeClock ∧ t.pending = s.pending

/-- A full sync fills the account to the lesser of Cu and Cap, SYNCED, with its SoC, and disarms the timer, with CHARGE_SYNC subject 2 and value
1000 first at every port (R35); the SoC, where it changed, is handed to LDC, which judges the energy gates at it (R68) and with them masters' records,
gated, restored and driven again (R71, R75 to R78). That the notice stands first,
ahead of the notices of LDC's event, is the model's reading (log 13, 9 section 9.9). -/
def Obligations.FullSyncFillsAccount : Prop :=
  ∀ s : State, s.chg.fullArmed = true → s.chg.accountSet = true →
    ∃ t, exec .fullSync s = .next t ∧ t.chg.content = min s.usable s.sto.live.cap ∧ t.chg.residue = 0 ∧ t.chg.synced = true ∧
      t.chg.soc = min 1000 (t.chg.content * 1000 / s.usable) ∧ t.chg.fullArmed = false ∧ t.chg.rest = (if s.chg.rest = .idle then .idle else .timing 0) ∧
      (∀ p, ((s.port p).push ⟨.chargeSync, 2, 1000, s.noticeClock⟩).Grown (t.port p)) ∧ SocHandedOn s t ∧
      t.scv = s.scv ∧ t.sto = s.sto ∧ t.noticeClock = s.noticeClock ∧ t.pending = s.pending

/-- A change of the alarms (R37, R38, R69): both states reach LDC, LOW_VOLTAGE comes first at every port with the alarm level, the counter of a
changed alarm is 0, and on the entry of CRITICAL a write is under way afterwards. LDC judges masters' records at once: it gates those that are held, with
LOAD_GATED, restores those that no longer are, and drives them as R73 gives it (R71, R75 to R78). The GRANTED record of an axis that is held is gated,
and MOT loses the grant: an AUTO plan waits, a jog ends (R76, R111, R112); that a HALT that stands keeps its cause (log 22), and that NEXT before a
further segment makes it current (log 23), are the model's readings. That the notice stands first, ahead of the notices of LDC's event, is
the model's reading (log 13, 9 section 9.9). -/
def Obligations.AlarmChangeReachesLdc : Prop :=
  ∀ (lvd critical : Bool) (s : State), ¬ (s.chg.lvd = lvd ∧ s.chg.critical = critical) →
    ∃ t, exec (.alarmChange lvd critical) s = .next t ∧ t.chg.lvd = lvd ∧ t.chg.critical = critical ∧
      t.ldc.lvd = lvd ∧ t.ldc.critical = critical ∧
      (s.chg.lvd ≠ lvd → t.chg.lvdCount = 0) ∧ (s.chg.critical ≠ critical → t.chg.criticalCount = 0) ∧
      (∀ p, ((s.port p).push ⟨.lowVoltage, 0, if critical then 2 else if lvd then 1 else 0, s.noticeClock⟩).Grown (t.port p)) ∧
      (critical = true → s.chg.critical = false → t.sto.writing ≠ none) ∧
      (¬ (critical = true ∧ s.chg.critical = false) → t.sto = s.sto) ∧
      (s.Settled → s.mastersOnly → RecordsJudged s t) ∧
      (∀ a l, s.Settled → OnlyGranted a l s → ∀ g, t.holdingReason (axisRecord a) l.tier = some g →
        GrantLost a l (.gated g) s t ∧ Raised l.owner.port ⟨.loadGated, byteOf (axisRecord a).val, BitVec.ofNat 16 g.code, s.noticeClock⟩ s t) ∧
      t.chg.content = s.chg.content ∧ t.chg.residue = s.chg.residue ∧ t.scv = s.scv ∧ t.noticeClock = s.noticeClock ∧ t.pending = s.pending

/-- A change of the supply (R39, R63): LDC's copy and its budget follow, and SUPPLY_CHANGED comes first at every port; on ABSENT the full-sync
timer is 0 and armed. That the notice stands first, ahead of the notices of LDC's event, is the model's reading (log 13, 9 section 9.9).
A fall of B below G with none PENDING sheds, in the order of R65, the fewest records that bring G to B, with LOAD_SHED at the owners' ports in that
order; where none of them fits again they stay PENDING (R64 to R66). A rise of B with one ESSENTIAL record PENDING that does not fit: pre-emption sheds
the fewest of the LEISURE and COMFORT grants, in its order, that make it fit, and grants it; where all of them would not, it sheds none (R57, R58).
A fall that sheds the one record of an axis takes the grant from MOT: an AUTO plan waits, a jog ends (R65, R111, R112, with the readings of logs 22, 23). The SUPPLY_V values of the scan
make the change: at the 200th in succession at or above 13.2 V, or below 12.8 V, and another value sets the count to 0 (R39).
That a grant order equal to the counter counts as the oldest is the model's reading (log 50). -/
def Obligations.SupplyChangeMovesBudget : Prop :=
  (∀ (present : Bool) (s : State), s.chg.supply ≠ present → s.ldc.supply = s.chg.supply →
    ∃ t, exec (.supplyChange present) s = .next t ∧ t.chg.supply = present ∧ t.chg.supplyCount = 0 ∧ t.ldc.supply = present ∧
      t.ldc.budget = s.sto.live.batteryLimit + (if present then s.sto.live.shoreAllowance else 0)
        + (if s.ldc.engine then s.sto.live.alternatorAllowance else 0) ∧
      (present = false → t.chg.fullTimer = 0 ∧ t.chg.fullArmed = true) ∧
      (∀ p, ((s.port p).push ⟨.supplyChanged, 0, if present then 1 else 0, s.noticeClock⟩).Grown (t.port p)) ∧
      t.chg.content = s.chg.content ∧ t.scv = s.scv ∧ t.sto = s.sto ∧ t.noticeClock = s.noticeClock ∧ t.pending = s.pending) ∧
  (∀ (l : List (Fin 14)) (s : State), s.chg.supply = true → s.ldc.supply = true → s.Settled → s.InBudget → s.pendingList = [] →
    (∀ n ∈ l, plainRecord n = true) → s.ShedFirst s.granted l →
    let budget := s.sto.live.batteryLimit + (if s.ldc.engine then s.sto.live.alternatorAllowance else 0)
    s.grantedSum ≤ budget + s.countedSum l → (l ≠ [] → budget + s.countedSum l.dropLast < s.grantedSum) →
    (∀ n ∈ l, budget + s.countedSum l < s.grantedSum + s.sto.live.declared[n]) →
    ∃ t, exec (.supplyChange false) s = .next t ∧ Shed l s t ∧ (∀ m, m ∉ l → t.load m = s.load m) ∧
      t.ldc = { s.ldc with supply := false, budget := budget, loads := t.ldc.loads } ∧
      (∀ m, m ∉ l → t.out.target[m] = s.out.target[m] ∧ t.out.level[m] = s.out.level[m]) ∧ (∀ a, t.bridge a = s.bridge a) ∧
      (∀ p, t.port p = s.shedNotices l p ((s.port p).push ⟨.supplyChanged, 0, 0, s.noticeClock⟩)) ∧
      t.mot = s.mot ∧ t.dlu = s.dlu ∧ t.cwc = s.cwc ∧ t.calls = s.calls) ∧
  (∀ (a : Axis) (l : Load) (s : State), s.chg.supply = true → s.ldc.supply = true → s.Settled → s.InBudget → OnlyGranted a l s →
    let budget := s.sto.live.batteryLimit + (if s.ldc.engine then s.sto.live.alternatorAllowance else 0)
    budget < s.grantedSum → budget < s.sto.live.declared[axisRecord a] →
    ∃ t, exec (.supplyChange false) s = .next t ∧ GrantLost a l (.pending false) s t ∧ t.ldc.budget = budget ∧
      Raised l.owner.port ⟨.loadShed, byteOf (axisRecord a).val, 0, s.noticeClock⟩ s t ∧
      t.dlu = s.dlu ∧ t.cwc = s.cwc ∧ t.calls = s.calls) ∧
  (∀ (code : BitVec 12) (s : State), s.Settled → s.scv.inFlight = some .fast → s.scv.fastGroup = some 3 →
    let mv := code.toNat * 5
    let other := if s.chg.supply then mv < 12800 else 13200 ≤ mv
    ∃ t, exec (.fastConversionComplete code) s = .next t ∧
      (¬ other → t = { s with scv := t.scv, chg := { s.chg with supplyCount := 0 } }) ∧
      (other → s.chg.supplyCount < 199 → t = { s with scv := t.scv, chg := { s.chg with supplyCount := s.chg.supplyCount + 1 } }) ∧
      (other → 199 ≤ s.chg.supplyCount → t.chg.supply = (!s.chg.supply) ∧ t.chg.supplyCount = 0 ∧
        (s.ldc.supply = s.chg.supply → t.ldc.supply = t.chg.supply) ∧
        (∀ p, ((s.port p).push ⟨.supplyChanged, 0, if t.chg.supply then 1 else 0, s.noticeClock⟩).Grown (t.port p)) ∧
        t.chg.content = s.chg.content ∧ t.chg.residue = s.chg.residue ∧ t.sto = s.sto ∧ t.noticeClock = s.noticeClock ∧
        t.pending = s.pending)) ∧
  ∀ (l : List (Fin 14)) (n : Fin 14) (r : Load) (s : State), s.chg.supply = false → s.ldc.supply = false → s.Settled →
    s.pendingList = [n] → s.load n = some r → r.tier = .essential →
    let budget := s.sto.live.batteryLimit + s.sto.live.shoreAllowance + (if s.ldc.engine then s.sto.live.alternatorAllowance else 0)
    let told := fun p : Port => (s.port p).push ⟨.supplyChanged, 0, 1, s.noticeClock⟩
    s.ldc.budget < budget → budget < s.grantedSum + s.sto.live.declared[n] →
    (plainRecord n = true → (∀ m ∈ l, plainRecord m = true) → s.ShedFirst s.mayPreempt l →
      l ≠ [] → budget + s.countedSum l.dropLast < s.grantedSum + s.sto.live.declared[n] →
      s.grantedSum + s.sto.live.declared[n] ≤ budget + s.countedSum l →
      ∃ t, exec (.supplyChange true) s = .next t ∧ Shed l s t ∧
        (∃ order, (t.load n).map Load.unnumbered =
          some { r with phase := .granted order s.sto.live.declared[n] }.unnumbered ∧ t.out.target[n] = s.driveLevel n r) ∧
        (∀ m, m ∉ l → m ≠ n → (t.load m).map Load.unnumbered = (s.load m).map Load.unnumbered ∧
          t.out.target[m] = s.out.target[m] ∧ t.out.level[m] = s.out.level[m]) ∧
        (∀ p, t.port p =
          let q := s.shedNotices l p (told p)
          if p = r.owner.port then q.push ⟨if r.phase = .pending true then .loadRestored else .loadGranted, byteOf n.val,
            BitVec.ofInt 16 (s.driveLevel n r), s.noticeClock⟩ else q) ∧
        t.mot = s.mot ∧ t.dlu = s.dlu ∧ t.cwc = s.cwc ∧ t.calls = s.calls) ∧
    ((∀ m, s.mayPreempt m = true → m ∈ l) → budget + s.countedSum l < s.grantedSum + s.sto.live.declared[n] →
      ∃ t, exec (.supplyChange true) s = .next t ∧ t.ldc = { s.ldc with supply := true, budget := budget } ∧ t.out = s.out ∧
        (∀ p, t.port p = told p) ∧ t.mot = s.mot ∧ t.dlu = s.dlu ∧ t.cwc = s.cwc ∧ t.calls = s.calls)

/-- SET_CHARGE from the panel (R36): C from the clamped SoC, r = 0, SYNCED, rest restarted, CLAMPED above 1000; a changed SoC is handed to LDC, which
judges the energy gates at it (R24, R68), and with them masters' records (R71, R75 to R78); the answer carries C and SoC, in the bytes of the model's layout (log 26, by the sizes of R179). -/
def Obligations.SetChargeSetsAccount : Prop :=
  ∀ (tag : Byte) (v : Word16) (s : State), s.canTake ⟨.panel, tag, le2 v.toNat⟩ → s.isReady = true → s.chg.accountSet = true →
    let soc := min v.toNat 1000
    ∃ t, exec (.setCharge ⟨.panel, tag, le2 v.toNat⟩) s = .next t ∧ t.chg.content = soc * s.usable / 1000 ∧ t.chg.residue = 0 ∧
      t.chg.synced = true ∧ t.chg.soc = min 1000 (t.chg.content * 1000 / s.usable) ∧ t.chg.fullTimer = s.chg.fullTimer ∧
      t.chg.rest = (if s.chg.rest = .idle then .idle else .timing 0) ∧ t.chg.minuteRing = s.chg.minuteRing ∧ t.chg.ttf = s.chg.ttf ∧
      t.panel.answer = some (answerFrame tag ⟨if 1000 < v.toNat then .clamped else .ok, le4 t.chg.content ++ le2 t.chg.soc⟩) ∧ SocHandedOn s t ∧
      t.scv = s.scv ∧ t.sto = s.sto ∧ t.noticeClock = s.noticeClock ∧ t.pending = s.pending

/-! ## LDC and OUT -/

/-- A master's SET_LOAD with a level above 0 on a record that is OFF and fits is granted in its own request (R50 to R52, R57, R58, R85): the
record as R50 gives it, the drive at OUT, no notice, and OK or CLAMPED with the load record in the answer. -/
def Obligations.SetLoadGrantsFreshRecord : Prop :=
  ∀ (p : Port) (tag : Byte) (n : Fin 14) (level : Byte) (auto : Option Byte) (s : State),
    p ≠ .chassis → masterRecord n = true → level ≠ 0 → s.isReady = true → s.Settled → s.freshFits n s.sto.live.tier[n] →
    s.canTake ⟨p, tag, byteOf n.val :: level :: auto.toList⟩ →
    let tier := s.sto.live.tier[n]
    let asked := if n.val < 6 then level.toNat else 255
    ∃ t, exec (.setLoad ⟨p, tag, byteOf n.val :: level :: auto.toList⟩) s = .next t ∧
      GrantedFresh n (if p = .gateway then .gateway else .panel) asked tier
        (auto.bind (fun m => if m = 0 then none else some (min m.toNat 240 * 60))) s t ∧
      t.out.target[n] = (if s.capped n tier then min asked (s.sto.live.dimCapOf n) else asked) ∧
      (∀ m, m ≠ n → t.out.target[m] = s.out.target[m] ∧ t.out.level[m] = s.out.level[m]) ∧ (∀ a, t.bridge a = s.bridge a) ∧
      t.port p = { s.port p with
        receive := .hunt
        answer := some (answerFrame tag ⟨if 240 < (auto.getD 0).toNat then .clamped else .ok, loadRecordBytes t n⟩) } ∧
      othersKept p s t ∧ OnlyLoads s t

/-- A record set OFF by its owner (R48, R49) or at the end of its auto-off timer (R52), while no other record is PENDING: the record and its
drive go at once and nothing else changes; LOAD_TAKEN goes to a displaced gateway, LOAD_EXPIRED to the owner. The model's choice (log 1): an expiry
of a timer that does not run changes nothing. -/
def Obligations.OffAndExpiryDropTheRecord : Prop :=
  ∀ (n : Fin 14) (l : Load) (s : State), s.load n = some l → masterRecord n = true → (∀ m ∈ s.pendingList, m = n) → s.Settled →
    let dropped := fun t : State =>
      t.ldc = { s.ldc with loads := s.ldc.loads.set n none } ∧
      (l.isGranted = true → t.out.target[n] = 0 ∧ t.out.level[n] = 0 ∧ t.out.compare[recordGate n] = 0) ∧
      (∀ m, m ≠ n → t.out.target[m] = s.out.target[m] ∧ t.out.level[m] = s.out.level[m] ∧
        t.out.compare[recordGate m] = s.out.compare[recordGate m]) ∧
      (∀ a, t.bridge a = s.bridge a) ∧ OnlyLoads s t
    (∀ (p : Port) (tag : Byte) (auto : Option Byte), p ≠ .chassis → s.isReady = true →
      s.canTake ⟨p, tag, byteOf n.val :: 0 :: auto.toList⟩ → (l.owner = portOwner p ∨ (p = .panel ∧ l.owner = .gateway)) →
      ∃ t, exec (.setLoad ⟨p, tag, byteOf n.val :: 0 :: auto.toList⟩) s = .next t ∧ dropped t ∧
        t.port p = { s.port p with receive := .hunt, answer := some (answerFrame tag ⟨.ok, loadRecordBytes t n⟩) } ∧
        (∀ q, q ≠ p → t.port q = if l.owner = .gateway ∧ q = .gateway then (s.port q).push ⟨.loadTaken, byteOf n.val, 0, s.noticeClock⟩
          else s.port q)) ∧
    (l.autoOff ≠ none → ∃ t, exec (.autoOffExpiry n) s = .next t ∧ dropped t ∧
      (∀ q, t.port q = if q = l.owner.port then (s.port q).push ⟨.loadExpired, byteOf n.val, 0, s.noticeClock⟩ else s.port q)) ∧
    (l.autoOff = none → exec (.autoOffExpiry n) s = .next s)

/-- A call on a pump hold (R79, R71, R76): the hold takes its value, and a PUMP record that nothing else holds becomes GATED by a hold that is
set, with its drive gone. CWC's dumped-hold call sets the hold only while the dump state is DUMPED; in another it only ends the waiting of the call
(R145, log 15). That any other call is taken whatever CWC's state is the model's choice (log 60). -/
def Obligations.PumpHoldCallSetsHold : Prop :=
  (∀ (hold : PumpHold) (value : Bool) (s : State), (hold = .dumped → value = true → s.cwc.dump = .dumped) →
    ∃ t, exec (.pumpHoldCall hold value) s = .next t ∧ t.ldc.hold hold = value ∧
      t.ldc.inputs = (s.ldc.setHold hold value).inputs ∧
      (∀ l, value = true → s.load outPump = some l → l.isGated = false → s.holdingReason outPump l.tier = none → s.ldc.hold hold = false →
        (t.load outPump).map Load.unnumbered =
          some { l with phase := .gated (if hold = PumpHold.dryRun then GateReason.dryRun else GateReason.dumped) }.unnumbered ∧
        (l.isGranted = true → t.out.target[outPump] = 0 ∧ t.out.level[outPump] = 0)) ∧
      t.scv = s.scv ∧ t.chg = s.chg ∧ t.sto = s.sto ∧ t.noticeClock = s.noticeClock ∧ t.pending = s.pending) ∧
  (∀ s : State, s.Settled → s.cwc.dump ≠ .dumped →
    exec (.pumpHoldCall .dumped true) s = .next { s with calls := s.calls.erase .dumpedHold })

/-- The sum of the counted currents of the GRANTED records never exceeds the budget in force, from every state where it does not (R63). -/
def Obligations.StepKeepsGrantsInBudget : Prop :=
  ∀ s t : State, s.InBudget → step s = .next t → t.InBudget

/-- RUN_SCENE of one entry that the port may request acts as its SET_LOAD with no auto-off field; a scene whose every entry is owned elsewhere
changes nothing and reports each entry SKIPPED (R60), in the bytes of the model's layout (log 26, by the sizes and codes of R179). -/
def Obligations.RunSceneActsAsSetLoads : Prop :=
  ∀ (p : Port) (tag : Byte) (k : Fin 8) (s : State), p ≠ .chassis → s.isReady = true → s.Settled → s.canTake ⟨p, tag, [byteOf k.val]⟩ →
    (∀ e, s.ldc.scenes[k] = [e] → ownedElsewhere p e.output s = false →
      ∃ t u, exec (.runScene ⟨p, tag, [byteOf k.val]⟩) s = .next t ∧
        exec (.setLoad ⟨p, tag, [byteOf e.output.val, e.level]⟩) s = .next u ∧ setAnswer p none t = setAnswer p none u) ∧
    ((∀ e ∈ s.ldc.scenes[k], ownedElsewhere p e.output s = true) →
      exec (.runScene ⟨p, tag, [byteOf k.val]⟩) s = .next (s.answering p tag ⟨.ok,
        le2 0 ++ le2 (s.ldc.scenes[k]).length ++ (s.ldc.scenes[k]).flatMap (fun e => le2 e.output.val ++ [0])⟩))

/-- SET_SCENE of up to eight different master records replaces the list and changes nothing else (R59). -/
def Obligations.SetSceneReplacesList : Prop :=
  ∀ (tag : Byte) (k : Fin 8) (l : List SceneEntry) (s : State), s.isReady = true → s.Settled → l.length ≤ 8 →
    (∀ e ∈ l, masterRecord e.output = true) → (l.map SceneEntry.output).Nodup →
    s.canTake ⟨.panel, tag, byteOf k.val :: l.flatMap (fun e => [byteOf e.output.val, e.level])⟩ →
    exec (.setScene ⟨.panel, tag, byteOf k.val :: l.flatMap (fun e => [byteOf e.output.val, e.level])⟩) s =
      .next ({ s with ldc := { s.ldc with scenes := s.ldc.scenes.set k l } }.answering .panel tag ⟨.ok, []⟩)

/-- One fade step (R86): each DIMMED level moves by its fade rate toward its target and stops there; a moved output's compare value is its
level, loaded at once at 0 and at the next wrap above 0 (R82, R83). -/
def Obligations.FadeStepMovesEachLight : Prop :=
  ∀ s : State, ∃ level compare waiting,
    exec .fadeStepExpiry s = .next { s with out := { s.out with level := level, compare := compare, waiting := waiting } } ∧
    (∀ n : Fin 14,
      let g := recordGate n
      let before := s.out.level[n]
      let target := s.out.target[n]
      if n.val < 6 ∧ before ≠ target then
        level[n] = (if before < target then min target (before + s.sto.live.fadeRateOf n) else max target (before - s.sto.live.fadeRateOf n)) ∧
        (if level[n] = 0 then compare[g] = 0 ∧ waiting[g] = none else compare[g] = s.out.compare[g] ∧ waiting[g] = some level[n])
      else level[n] = before ∧ compare[g] = s.out.compare[g] ∧ waiting[g] = s.out.waiting[g]) ∧
    (∀ g : Fin 16, 14 ≤ g.val → compare[g] = s.out.compare[g] ∧ waiting[g] = s.out.waiting[g])

/-- A soft-start expiry raises the duty by 16, or to 255 and ends the soft start; the duty is the compare value of the driven input, loaded at
the next wrap (R82, R89). A timebase wrap loads each waiting value (R81, R82); that it does so, with the timebase to 0, at a count other than 254 too,
is the model's choice (log 43). -/
def Obligations.SoftStartRaisesDuty : Prop :=
  ∀ (a : Axis) (s : State),
    ((s.bridge a).softStart = false → exec (.softStartExpiry a) s = .next s) ∧
    ((s.bridge a).softStart = true → ∃ t, exec (.softStartExpiry a) s = .next t ∧
      t.bridge a = { s.bridge a with duty := min 255 ((s.bridge a).duty + 16), softStart := decide ((s.bridge a).duty + 16 ≤ 255) } ∧
      (∀ b, b ≠ a → t.bridge b = s.bridge b) ∧
      (∀ g : Fin 16, t.out.waiting[g] = if g = (if (s.bridge a).effective = .driveIn then gateB a else gateA a)
        then some (min 255 ((s.bridge a).duty + 16)) else s.out.waiting[g]) ∧
      t.out.compare = s.out.compare ∧ t.out.level = s.out.level ∧ t.out.target = s.out.target ∧ t.out.timebase = s.out.timebase ∧
      t = { s with out := t.out }) ∧
    (∃ t, exec .timebaseWrap s = .next t ∧ t.out.timebase = 0 ∧
      (∀ g : Fin 16, t.out.waiting[g] = none ∧ t.out.compare[g] = (s.out.waiting[g]).getD s.out.compare[g]) ∧
      t.out.level = s.out.level ∧ t.out.target = s.out.target ∧ (∀ b, t.bridge b = s.bridge b) ∧ t = { s with out := t.out })

/-! ## MOT -/

/-- A hall pulse that does not take a stowed axis out of stowed under the drive lock, but for a running lock retraction (R102, R104, R108, R109; R131
has the other case). Outside a plan, and in a wait with no count direction, it spoils the count; while an axis stops or waits it counts in the count
direction; in RUNNING it counts, and the segment ends at its target, or overruns 32 pulses past the travel; a back-off ends at its target, toward FAULT.
That a pulse held at that limit is judged so as well is the model's choice (log 53). -/
def Obligations.HallPulseCounts : Prop :=
  ∀ (a : Axis) (gap : Nat) (s : State), s.Settled →
    (s.dlu.lock = .free ∨ (s.axis a).runsSource .lock = true ∨ (s.axis a).stowed = false) →
    let r := s.axis a
    let moved := fun d : Dir => if d = .outward then min (r.position + 1) (s.sto.live.travel a + 32) else r.position - 1
    ((r.state = .idle ∨ r.state = .standby ∨ r.state = .fault ∨ ((r.state = .waitMotor ∨ r.state = .waitGrant) ∧ r.countDir = none)) →
      exec (.hallPulse a gap) s = .next (s.setAxis a { r with known := false })) ∧
    (∀ d, (r.state = .stopping ∨ r.state = .waitMotor ∨ r.state = .waitGrant) → r.countDir = some d →
      exec (.hallPulse a gap) s =
        .next (s.setAxis a { r with position := moved d, pulsePeriod := min gap 65535, firstPulse := false })) ∧
    (∀ d p, r.state = .running → r.countDir = some d → r.backOff = none → r.plan = some p →
      let g := p.current
      let reached := g.toEnd = false ∧ (if g.dir = .outward then g.target ≤ moved d else moved d ≤ g.target)
      let overrun := g.dir = .outward ∧ r.known = true ∧ moved d = s.sto.live.travel a + 32
      ∃ t, exec (.hallPulse a gap) s = .next t ∧ OnlyAxis a s t ∧ (t.axis a).position = moved d ∧ (t.axis a).known = r.known ∧
        (t.axis a).pulsePeriod = min gap 65535 ∧ (t.axis a).plan = r.plan ∧ (t.axis a).countDir = r.countDir ∧
        (t.axis a).source = r.source ∧
        (reached → (t.axis a).state = .stopping ∧ (t.axis a).continuation = some .next ∧ (t.bridge a).requested = .brake) ∧
        (¬ reached → overrun → (t.axis a).state = .stopping ∧ (t.axis a).continuation = some .fault ∧
          (t.axis a).faultKind = some .overrun ∧ (t.bridge a).requested = .brake) ∧
        (¬ reached → ¬ overrun → t = s.setAxis a
          { r with position := moved d, pulsePeriod := min gap 65535, firstPulse := false, lastPulse := true })) ∧
    (∀ d target, r.state = .running → r.countDir = some d → r.backOff = some target →
      let counted := { r with position := moved d, pulsePeriod := min gap 65535, firstPulse := false }
      (moved d < target → exec (.hallPulse a gap) s = .next (s.setAxis a { counted with lastPulse := true })) ∧
      (target ≤ moved d → ∃ t, exec (.hallPulse a gap) s = .next t ∧ OnlyAxis a s t ∧ (t.bridge a).requested = .brake ∧
        t.axis a = { counted with state := .stopping, lastPulse := false, continuation := some .fault, backOff := none }))

/-- The last-pulse timer of a RUNNING axis (R103, R108, R109): the end of travel, NO_PULSE, a pinch with its back-off, or OBSTRUCTION; the drive
brakes in each. The third over-current value (R105) makes FAULT the continuation. MOTOR_I of the scan is read for the holder of the sense while it is
RUNNING: above the trip it counts, to the third in succession, and else the count is 0 (R100, R105). -/
def Obligations.RunningAxisEndsOrFaults : Prop :=
  (∀ (a : Axis) (s : State), s.Settled → (s.axis a).state = .running →
    let r := s.axis a
    let stops := fun t : State => OnlyAxis a s t ∧ (t.axis a).state = .stopping ∧ (t.bridge a).requested = .brake ∧
      (t.axis a).lastPulse = false ∧ (t.axis a).plan = r.plan ∧ (t.axis a).source = r.source ∧ (t.axis a).countDir = r.countDir
    (∀ p, r.lastPulse = true → r.backOff = none → r.plan = some p →
      ∃ t, exec (.lastPulseTimerExpiry a) s = .next t ∧ stops t ∧
        (if p.current.dir = .inward ∧ (r.position ≤ 8 ∨ r.known = false) then
          (t.axis a).continuation = some .next ∧ (t.axis a).position = 0 ∧ (t.axis a).known = true
        else if p.current.dir = .outward ∧ r.known = true ∧ s.sto.live.travel a - 8 ≤ r.position then
          (t.axis a).continuation = some .next ∧ (t.axis a).position = s.sto.live.travel a ∧ (t.axis a).known = true
        else (t.axis a).position = r.position ∧ (t.axis a).known = r.known ∧
          (if r.firstPulse = true then (t.axis a).continuation = some .fault ∧ (t.axis a).faultKind = some .noPulse
          else (t.axis a).faultKind = some .obstruction ∧
            (if p.current.dir = .inward ∧ 0 < s.sto.live.backOff ∧ s.dlu.lock = .free then
              (t.axis a).continuation = some .backOff ∧
              (t.axis a).backOff = some (min (r.position + s.sto.live.backOff) (s.sto.live.travel a))
            else (t.axis a).continuation = some .fault)))) ∧
    (r.lastPulse = true → r.backOff ≠ none →
      ∃ t, exec (.lastPulseTimerExpiry a) s = .next t ∧ stops t ∧ (t.axis a).continuation = some .fault) ∧
    (s.mot.sense = some a →
      ∃ t, exec (.overcurrentTrip a) s = .next t ∧ stops t ∧ (t.axis a).continuation = some .fault ∧
        (t.axis a).position = r.position ∧ (t.axis a).known = r.known ∧
        (t.axis a).faultKind = some (if r.backOff = none then .overcurrent else .obstruction))) ∧
  ∀ (a : Axis) (code : BitVec 12) (s : State), s.Settled → s.scv.inFlight = some .fast → s.scv.fastGroup = some 2 →
    let r := s.axis a
    let trip := s.sto.live.trip a
    ∃ t, exec (.fastConversionComplete code) s = .next t ∧
      (s.mot.sense ≠ some a ∨ r.state ≠ .running → t.axis a = r ∧ t.bridge a = s.bridge a) ∧
      (s.mot.sense = some a → r.state = .running →
        (code.toNat ≤ trip → t = { s.setAxis a { r with overCount := 0 } with scv := t.scv }) ∧
        (trip < code.toNat → r.overCount < 2 → t = { s.setAxis a { r with overCount := r.overCount + 1 } with scv := t.scv }) ∧
        (trip < code.toNat → 2 ≤ r.overCount → OnlyAxis a { s with scv := t.scv } t ∧ (t.axis a).state = .stopping ∧
          (t.axis a).continuation = some .fault ∧ (t.axis a).faultKind = some (if r.backOff = none then .overcurrent else .obstruction) ∧
          (t.axis a).lastPulse = false ∧ (t.axis a).plan = r.plan ∧ (t.axis a).position = r.position ∧ (t.axis a).known = r.known ∧
          (t.bridge a).requested = .brake))

/-- STOPPING that ends a plan (R106 to R108): IDLE with MOTION_DONE or MOTION_HALTED, or FAULT with MOTION_FAULT and, for NO_PULSE and OVERRUN,
status UNKNOWN; the record goes OFF, the sense is released, the notice goes to the source's port and the panel. A plan of source LOCK then reports its
end to DLU, after its motion notice: FREE ignores it; an end stowed clears the mark, and in PENDING gives HELD with LOCK_HELD once no mark is left and
both axes are in; another end gives HELD with the lock-fault mark and LOCK_FAULT (R130). -/
def Obligations.StoppingEndsThePlan : Prop :=
  (∀ (a : Axis) (src : Source) (s : State), s.Settled → (s.axis a).state = .stopping → (s.axis a).source = some src → src ≠ .lock →
    (∀ b, b ≠ a → (s.axis b).state ≠ .waitMotor) → s.mot.sense = some a → s.pendingList = [] →
    let r := s.axis a
    let ended := fun (kind : NoticeKind) (value : Word16) (t : State) =>
      (t.axis a).plan = none ∧ (t.axis a).source = none ∧ (t.axis a).mode = .auto ∧ (t.axis a).jogPort = none ∧ (t.axis a).jogLive = false ∧
      (t.axis a).countDir = none ∧ (t.axis a).continuation = none ∧ (t.axis a).backOff = none ∧ (t.axis a).position = r.position ∧
      (∀ b, b ≠ a → t.axis b = s.axis b ∧ t.bridge b = s.bridge b) ∧ t.mot.sense = none ∧
      (t.bridge a).requested = .coast ∧ (t.bridge a).effective = .coast ∧
      t.ldc = { s.ldc with loads := s.ldc.loads.set (axisRecord a) none } ∧
      (∀ q, t.port q = if q = .panel ∨ (q = .chassis ∧ src = .chassis) ∨ (q = .gateway ∧ src = .gateway) then
        (s.port q).push ⟨kind, if a = .step then 0 else 1, value, s.noticeClock⟩ else s.port q) ∧
      t.scv = s.scv ∧ t.chg = s.chg ∧ t.dlu = s.dlu ∧ t.cwc = s.cwc ∧ t.sto = s.sto ∧ t.noticeClock = s.noticeClock ∧ t.pending = s.pending
    (∀ p, r.continuation = some .next → r.plan = some p → (p.second = none ∨ p.onSecond = true) →
      ∃ t, exec (.stoppingTimerExpiry a) s = .next t ∧ ended .motionDone 0 t ∧ (t.axis a).state = .idle ∧ (t.axis a).known = r.known) ∧
    (∀ c, r.continuation = some (.halt c) → c ≠ .linkReset →
      ∃ t, exec (.stoppingTimerExpiry a) s = .next t ∧
        ended .motionHalted (match c with
          | .stop => 1
          | .stopn => 2
          | .grantLost => 3
          | .wind => 4
          | .lock => 5
          | .linkReset => 0) t ∧ (t.axis a).state = .idle ∧ (t.axis a).known = r.known) ∧
    (∀ k, r.continuation = some .fault → r.faultKind = some k → r.held = none →
      ∃ t, exec (.stoppingTimerExpiry a) s = .next t ∧
        ended .motionFault (match k with
          | .obstruction => 1
          | .overcurrent => 2
          | .noPulse => 3
          | .overrun => 4) t ∧ (t.axis a).state = .fault ∧ (t.axis a).faultKind = some k ∧
        (t.axis a).known = (r.known && decide (k = .obstruction ∨ k = .overcurrent)))) ∧
  ∀ (a b : Axis) (s : State), s.Settled → (s.axis a).state = .stopping → (s.axis a).source = some .lock → b ≠ a →
    (s.axis b).state ≠ .waitMotor → s.mot.sense = some a → s.pendingList = [] →
    let r := s.axis a
    let code : Byte := if a = .step then 0 else 1
    let d : Dlu := { s.dlu with
      stepMark := if a = .step then false else s.dlu.stepMark
      awningMark := if a = .awning then false else s.dlu.awningMark }
    -- kind and value: the motion notice; failed: the end is not stowed; fault: the value of LOCK_FAULT
    let ended := fun (kind : NoticeKind) (value : Word16) (failed : Bool) (fault : Word16) (t : State) =>
      let panel := s.panel.push ⟨kind, code, value, s.noticeClock⟩
      (t.axis a).plan = none ∧ (t.axis a).source = none ∧ t.axis b = s.axis b ∧ t.mot.sense = none ∧
      t.ldc = { s.ldc with loads := s.ldc.loads.set (axisRecord a) none } ∧
      (s.dlu.lock = .free → t.dlu = s.dlu ∧ t.panel = panel ∧ othersKept .panel s t) ∧
      (s.dlu.lock ≠ .free → failed = true → t.dlu = { d with lock := .held, lockFault := true } ∧
        ∀ p, t.port p = (if p = .panel then panel else s.port p).push ⟨.lockFault, code, fault, s.noticeClock⟩) ∧
      (s.dlu.lock = .held → failed = false → t.dlu = d ∧ t.panel = panel ∧ othersKept .panel s t) ∧
      (s.dlu.lock = .pending → failed = false →
        if s.dlu.planMark b = false ∧ (s.axis b).stowedIdle = true then
          t.dlu = { d with lock := .held } ∧ t.gateway = s.gateway ∧ t.panel = panel.push ⟨.lockHeld, 0, 0, s.noticeClock⟩ ∧
            t.chassis = s.chassis.push ⟨.lockHeld, 0, 0, s.noticeClock⟩
        else t.dlu = d ∧ t.panel = panel ∧ othersKept .panel s t) ∧
      t.cwc = s.cwc ∧ t.scv = s.scv ∧ t.chg = s.chg ∧ t.sto = s.sto ∧ t.pending = s.pending
    (∀ p, r.continuation = some .next → r.plan = some p → (p.second = none ∨ p.onSecond = true) →
      ∃ t, exec (.stoppingTimerExpiry a) s = .next t ∧ ended .motionDone 0 (!r.stowed) 0 t ∧ (t.axis a).state = .idle) ∧
    (∀ c, (c = .stop ∨ c = .stopn) → r.continuation = some (.halt c) →
      ∃ t, exec (.stoppingTimerExpiry a) s = .next t ∧ ended .motionHalted (if c = .stop then 1 else 2) (!r.stowed) 0 t ∧
        (t.axis a).state = .idle) ∧
    (∀ k, r.continuation = some .fault → r.faultKind = some k → r.held = none →
      let value : Word16 := match k with
        | .obstruction => 1
        | .overcurrent => 2
        | .noPulse => 3
        | .overrun => 4
      ∃ t, exec (.stoppingTimerExpiry a) s = .next t ∧ ended .motionFault value true value t ∧ (t.axis a).state = .fault)

/-- STOPPING that ends no plan, by its continuation (R106). STANDBY: COAST, the sense released, the count direction dropped, the record, the plan, the jog
port and the mode kept (R114); that the plan is kept follows R114, where the table of R94 calls it absent in STANDBY (log 17). BACK-OFF: the axis drives
outward toward the back-off target (R109). WAIT and RESUME go on with the current segment, NEXT with the further one, and NEW PLAN releases the sense, to
a waiting STEP before AWNING, and takes it again (R100): without a grant they end in WAIT_GRANT, and with one in RUNNING by R101, homing first and
aimed anew, or in IDLE where the entry check halts an outward segment. That a jog is not homed (log 19), and that the entry check reads the segment as it
stands (log 20), are the model's readings; that a back-off under status UNKNOWN is not homed first is its choice (log 63). -/
def Obligations.StoppingLeadsOn : Prop :=
  ∀ (a b : Axis) (s : State), s.Settled → b ≠ a → (s.axis a).state = .stopping →
    let r := s.axis a
    (r.continuation = some .standby → s.mot.sense = some a → (s.axis b).state ≠ .waitMotor →
      ∃ t, exec (.stoppingTimerExpiry a) s = .next t ∧ (t.axis a).state = .standby ∧ (t.axis a).standbyTimer = true ∧
        (t.axis a).plan = r.plan ∧ (t.axis a).mode = r.mode ∧ (t.axis a).jogPort = r.jogPort ∧ (t.axis a).countDir = none ∧
        (t.axis a).position = r.position ∧ t.mot.sense = none ∧ (t.bridge a).requested = .coast ∧ (t.bridge a).effective = .coast ∧
        t.axis b = s.axis b ∧ t.bridge b = s.bridge b ∧ t = { s with mot := t.mot, out := t.out }) ∧
    (∀ target, r.continuation = some .backOff → r.backOff = some target → r.position < target → s.dlu.lock = .free →
      ∃ t, exec (.stoppingTimerExpiry a) s = .next t ∧ OnlyAxis a s t ∧ (t.axis a).state = .running ∧ (t.axis a).backOff = some target ∧
        (t.axis a).countDir = some .outward ∧ (t.axis a).lastPulse = true ∧ (t.axis a).firstPulse = true ∧
        (t.bridge a).requested = .driveOut ∧ (t.bridge a).effective = if s.granted (axisRecord a) then .driveOut else .coast) ∧
    (∀ p l, r.plan = some p → s.load (axisRecord a) = some l →
      ((r.continuation = some .next ∧ p.second.isSome = true ∧ p.onSecond = false) ∨ r.continuation = some .wait ∨
        r.continuation = some .resume ∨ (r.continuation = some .newPlan ∧ ((s.axis b).state ≠ .waitMotor ∨ a = .step))) →
      -- the plan with the segment that is current now, and the state with the holder of the sense
      let q : Plan := if r.continuation = some .next then { p with onSecond := true } else p
      let u : State := if r.continuation = some .newPlan then { s with mot := { s.mot with sense := some a } } else s
      let outward := q.current.dir = .outward
      let halt : Option HaltCause := if ¬ outward then none else if s.dlu.lock ≠ .free then some .lock
        else if a = .awning ∧ s.mot.windHold = true then some .wind else if s.mot.stopn then some .stopn else none
      let homed : Plan := if outward ∧ r.known = false ∧ q.onSecond = false ∧ r.mode = .auto then ⟨⟨.inward, 0, true⟩, some q.current, false⟩ else q
      let g := homed.current
      let aimed := { g with dir := if g.toEnd then g.dir else if r.position < g.target then .outward else .inward }
      let drive : BridgeState := if aimed.dir = .outward then .driveOut else .driveIn
      (l.isGranted = false → ∃ t, exec (.stoppingTimerExpiry a) s = .next t ∧ OnlyAxis a u t ∧
        t.axis a = { r with state := .waitGrant, plan := some q, continuation := none } ∧
        (t.bridge a).requested = .coast ∧ (t.bridge a).effective = .coast) ∧
      (l.isGranted = true → halt = none → (g.toEnd = true ∨ g.target ≠ r.position) → (aimed.dir = .outward → s.dlu.lock = .free) →
        ∃ t, exec (.stoppingTimerExpiry a) s = .next t ∧ OnlyAxis a u t ∧
          t.axis a = { r with
            state := .running, plan := some (if homed.onSecond then { homed with second := some aimed } else { homed with first := aimed })
            continuation := none, countDir := some aimed.dir, lastPulse := true, firstPulse := true, overCount := 0 } ∧
          (t.bridge a).requested = drive ∧ (t.bridge a).effective = drive) ∧
      (∀ c, l.isGranted = true → halt = some c → r.source ≠ some .lock → (s.axis b).state ≠ .waitMotor → s.pendingList = [] →
        ∃ t, exec (.stoppingTimerExpiry a) s = .next t ∧ (t.axis a).state = .idle ∧ (t.axis a).plan = none ∧ (t.axis a).source = none ∧
          (t.axis a).position = r.position ∧ (t.axis a).known = r.known ∧ (t.bridge a).requested = .coast ∧ (t.bridge a).effective = .coast ∧
          t.mot.sense = (if u.mot.sense = some a then none else s.mot.sense) ∧ t.axis b = s.axis b ∧ t.bridge b = s.bridge b ∧
          t.ldc = { s.ldc with loads := s.ldc.loads.set (axisRecord a) none } ∧
          t.panel = s.panel.push ⟨.motionHalted, if a = .step then 0 else 1,
            if c = .lock then 5 else if c = .wind then 4 else 2, s.noticeClock⟩ ∧ t.dlu = s.dlu ∧ t.cwc = s.cwc ∧ t.sto = s.sto)) ∧
    (∀ l, a = .awning → r.continuation = some .newPlan → s.mot.step.state = .waitMotor → s.load 12 = some l → l.isGranted = false →
      ∃ t, exec (.stoppingTimerExpiry .awning) s = .next t ∧ t.mot.sense = some .step ∧
        t.mot.step = { s.mot.step with state := .waitGrant } ∧ t.mot.awning = { r with state := .waitMotor, continuation := none } ∧
        t.out.step = s.out.step ∧ (t.bridge .awning).requested = .coast ∧ (t.bridge .awning).effective = .coast ∧
        t = { s with mot := t.mot, out := t.out })

/-- Jogs (R113, R114): an expired deadline stops a RUNNING jog toward STANDBY; a CONTINUE resumes it; the standby timer ends it with
MOTION_DONE value 1. -/
def Obligations.JogsStopResumeAndEnd : Prop :=
  ∀ (a : Axis) (s : State), s.Settled →
    let r := s.axis a
    (r.jogLive = true → r.state = .running → r.backOff = none →
      ∃ t, exec (.jogDeadlineExpiry a) s = .next t ∧ OnlyAxis a s t ∧ (t.axis a).jogLive = false ∧ (t.axis a).state = .stopping ∧
        (t.axis a).continuation = some .standby ∧ (t.bridge a).requested = .brake ∧ (t.axis a).plan = r.plan ∧
        (t.axis a).position = r.position) ∧
    (∀ tag, s.canTake ⟨.panel, tag, [if a = .step then 0 else 1, 5]⟩ → s.isReady = true → r.mode = .jog → r.jogPort = some .panel →
      r.source = some .panel → s.dlu.lock = .free → s.mot.stopn = false → s.mot.windHold = false →
      (r.state = .running → r.backOff = none → exec (.moveContinue .panel tag (if a = .step then 0 else 1) []) s =
        let u := s.setAxis a { r with jogLive := true }
        .next (u.answering .panel tag ⟨.ok, axisBytes u a⟩)) ∧
      (r.state = .stopping → r.continuation = some .standby → exec (.moveContinue .panel tag (if a = .step then 0 else 1) []) s =
        let u := s.setAxis a { r with jogLive := true, continuation := some .resume, backOff := none }
        .next (u.answering .panel tag ⟨.ok, axisBytes u a⟩))) ∧
    (r.state = .standby → r.standbyTimer = true → r.source = some .panel → s.mot.sense ≠ some a → s.pendingList = [] →
      ∃ t, exec (.standbyTimerExpiry a) s = .next t ∧ (t.axis a).state = .idle ∧ (t.axis a).plan = none ∧ (t.axis a).source = none ∧
        t.ldc = { s.ldc with loads := s.ldc.loads.set (axisRecord a) none } ∧
        t.panel = s.panel.push ⟨.motionDone, if a = .step then 0 else 1, 1, s.noticeClock⟩ ∧ othersKept .panel s t ∧
        t.mot.sense = s.mot.sense ∧ (∀ b, b ≠ a → t.axis b = s.axis b ∧ t.bridge b = s.bridge b) ∧
        t.dlu = s.dlu ∧ t.cwc = s.cwc ∧ t.sto = s.sto ∧ t.pending = s.pending)

/-- STOPN becoming active, and a MOVE STOP from any port, stop each axis they reach that is RUNNING, toward IDLE or in a back-off toward FAULT, make
IDLE what follows an axis that is STOPPING, and leave one that is IDLE or in FAULT (R106, R109, R110, R96). Of an axis that waits or stands by, both
end the plan, a MOVE STOP with MOTION_HALTED value 1 and STOPN with value 2. A HALT that stands keeps its cause (log 22). The model's choice (log 1):
STOPN becoming active while it is active changes nothing. -/
def Obligations.StopsHaltRunningAxes : Prop :=
  ∀ s : State, s.Settled →
    let reached := fun a : Axis =>
      (s.axis a).state = .running ∨ (s.axis a).state = .stopping ∨ (s.axis a).state = .idle ∨ (s.axis a).state = .fault
    let halted := fun (c : HaltCause) (a : Axis) (t : State) =>
      ((s.axis a).state = .running → (t.axis a).state = .stopping ∧ (t.bridge a).requested = .brake ∧ (t.axis a).lastPulse = false ∧
        (t.axis a).continuation = some (if (s.axis a).backOff = none then .halt c else .fault) ∧ (t.axis a).plan = (s.axis a).plan ∧
        (t.axis a).position = (s.axis a).position) ∧
      ((s.axis a).state = .stopping → (t.axis a).state = .stopping ∧ t.bridge a = s.bridge a ∧ (t.axis a).plan = (s.axis a).plan ∧
        (t.axis a).position = (s.axis a).position ∧
        (t.axis a).continuation = some (match (s.axis a).continuation with
          | some .fault => .fault
          | some .backOff => .fault
          | some (.halt x) => .halt x
          | _ => .halt c)) ∧
      ((s.axis a).state = .idle ∨ (s.axis a).state = .fault → t.axis a = s.axis a ∧ t.bridge a = s.bridge a)
    (s.mot.stopn = false → (∀ a, reached a) →
      ∃ t, exec .stopnActive s = .next t ∧ t.mot.stopn = true ∧ (∀ a, halted .stopn a t) ∧ t.mot.sense = s.mot.sense ∧
        t = { s with mot := t.mot, out := t.out }) ∧
    (s.mot.stopn = true → exec .stopnActive s = .next s) ∧
    (∀ a src, s.mot.stopn = false → (s.axis a).source = some src → src ≠ .lock →
      ((s.axis a).state = .waitMotor ∨ (s.axis a).state = .waitGrant ∨ (s.axis a).state = .standby) → (∀ b, b ≠ a → reached b) →
      (∀ m ∈ s.pendingList, m = axisRecord a) →
      ∃ t : State, exec .stopnActive s = .next t ∧ t.mot.stopn = true ∧ (t.axis a).state = .idle ∧ (t.axis a).plan = none ∧
        (t.axis a).source = none ∧ (t.axis a).mode = .auto ∧ (t.axis a).position = (s.axis a).position ∧ (t.axis a).known = (s.axis a).known ∧
        t.ldc = { s.ldc with loads := s.ldc.loads.set (axisRecord a) none } ∧
        t.mot.sense = (if s.mot.sense = some a then none else s.mot.sense) ∧ (t.bridge a).requested = .coast ∧
        (∀ b, b ≠ a → halted .stopn b t) ∧
        (∀ q, t.port q = if q = .panel ∨ (q = .chassis ∧ src = .chassis) ∨ (q = .gateway ∧ src = .gateway) then
          (s.port q).push ⟨.motionHalted, if a = .step then 0 else 1, 2, s.noticeClock⟩ else s.port q) ∧
        t.dlu = s.dlu ∧ t.cwc = s.cwc ∧ t.sto = s.sto ∧ t.scv = s.scv ∧ t.chg = s.chg ∧ t.pending = s.pending) ∧
    (∀ p tag a, s.canTake ⟨p, tag, [if a = .step then 0 else 1, 6]⟩ → s.isReady = true → reached a →
      ∃ u, exec (.moveStop p tag (if a = .step then 0 else 1) []) s = .next (u.answering p tag ⟨.ok, axisBytes u a⟩) ∧
        halted .stop a u ∧ OnlyAxis a s u) ∧
    (∀ p tag a src, s.canTake ⟨p, tag, [if a = .step then 0 else 1, 6]⟩ → s.isReady = true → (s.axis a).source = some src → src ≠ .lock →
      ((s.axis a).state = .waitMotor ∨ (s.axis a).state = .waitGrant ∨ (s.axis a).state = .standby) →
      (∀ b, b ≠ a → (s.axis b).state ≠ .waitMotor) → (∀ m ∈ s.pendingList, m = axisRecord a) →
      ∃ u : State, exec (.moveStop p tag (if a = .step then 0 else 1) []) s = .next (u.answering p tag ⟨.ok, axisBytes u a⟩) ∧
        (u.axis a).state = .idle ∧ (u.axis a).plan = none ∧ (u.axis a).source = none ∧ (u.axis a).position = (s.axis a).position ∧
        (u.axis a).known = (s.axis a).known ∧ u.ldc = { s.ldc with loads := s.ldc.loads.set (axisRecord a) none } ∧
        u.mot.sense = (if s.mot.sense = some a then none else s.mot.sense) ∧ (u.bridge a).requested = .coast ∧
        (∀ b, b ≠ a → u.axis b = s.axis b ∧ u.bridge b = s.bridge b) ∧
        (∀ q, u.port q = if q = .panel ∨ (q = .chassis ∧ src = .chassis) ∨ (q = .gateway ∧ src = .gateway) then
          (s.port q).push ⟨.motionHalted, if a = .step then 0 else 1, 1, s.noticeClock⟩ else s.port q) ∧
        u.dlu = s.dlu ∧ u.cwc = s.cwc ∧ u.sto = s.sto ∧ u.scv = s.scv ∧ u.chg = s.chg ∧ u.pending = s.pending)

/-- The pins, wind pulses and clocks that change one thing each (R110, R116, R118, R122, R166): STOPN inactive, ENTRY closed, a wind pulse, the end
of the calm timer, the age of the vehicle report, the notice clock with the whole seconds left of the timers (log 4). The model's choices: the expiry of
a calm timer that does not run changes nothing (log 1), and the wind count has no upper end (log 58). -/
def Obligations.PinsPulsesAndTicksAct : Prop :=
  ∀ s : State,
    exec .stopnInactive s = .next { s with mot := { s.mot with stopn := false } } ∧
    exec .entryClose s = .next { s with mot := { s.mot with entryOpen := false } } ∧
    exec .windPulse s = .next { s with mot := { s.mot with windCount := s.mot.windCount + 1 } } ∧
    exec .calmTimerExpiry s =
      .next (if s.mot.calmTimer then { s with mot := { s.mot with calmTimer := false, windHold := false } } else s) ∧
    exec .vehicleAgeTick s = .next { s with dlu := { s.dlu with age := s.dlu.age.map (fun k => min 65535 (k + 1)) } } ∧
    ∃ t, exec .noticeClockTick s = .next t ∧ t.noticeClock = s.noticeClock + 1 ∧
      (∀ n, t.load n = (s.load n).map (fun l => { l with autoOff := l.autoOff.map (fun k => max 1 (k - 1) - if k = 0 then 1 else 0) })) ∧
      t.ldc.inputs = s.ldc.inputs ∧ t.cwc = { s.cwc with minOff := s.cwc.minOff.map (fun k => max 1 (k - 1) - if k = 0 then 1 else 0) } ∧
      t = { s with ldc := { s.ldc with loads := t.ldc.loads }, cwc := t.cwc, noticeClock := t.noticeClock }

/-- The ENTRY contact opens (R116): where one of the conditions fails, or STEP is out already, only the contact changes; where they hold and the sense is
the awning's, STEP waits for it with an extension of source ENTRY, homed first while UNKNOWN (R98, R99, R100). That ENTRY_OPEN acts so while the contact
is open already is the model's choice (log 59). -/
def Obligations.EntryOpenExtendsTheStep : Prop :=
  ∀ s : State, s.Settled →
    let r := s.mot.step
    let out : Segment := ⟨.outward, s.sto.live.stepTravel, true⟩
    ((s.sto.live.autoStep = false ∨ s.dlu.lock ≠ .free ∨ s.dlu.ignition = true ∨ s.dlu.stale = true ∨ s.mot.stopn = true ∨
        r.state = .fault ∨ r.towardFault = true ∨ r.runsSource .lock = true ∨ r.runsSource .wind = true ∨ (r.mode = .jog ∧ r.state ≠ .idle) ∨
        (r.state = .idle ∧ r.known = true ∧ s.sto.live.stepTravel - 8 ≤ r.position)) →
      exec .entryOpen s = .next { s with mot := { s.mot with entryOpen := true } }) ∧
    (s.sto.live.autoStep = true → s.dlu.lock = .free → s.dlu.ignition = false → s.dlu.stale = false → s.mot.stopn = false →
      r.state = .idle → ¬ (r.known = true ∧ s.sto.live.stepTravel - 8 ≤ r.position) → s.mot.sense = some .awning → s.load 12 = none →
      exec .entryOpen s = .next { s with mot := { s.mot with
        entryOpen := true
        step := { r with
          state := .waitMotor, mode := .auto, source := some .entry, jogPort := none, jogLive := false
          plan := some (if r.known then ⟨out, none, false⟩ else ⟨⟨.inward, 0, true⟩, some out, false⟩) } } })

/-- The end of a wind window (R118, R119): at or below the limit only the count and the mark change; above it the hold and the calm timer are set,
and a hold that begins halts an awning that is RUNNING outward. A second window above the limit, the hold standing, retracts an awning that is not
stowed, not under a safety plan and not stopping toward FAULT, in every state: WIND_RETRACT with the count at every port, first of all, and the INWARD END
plan of source WIND at tier ESSENTIAL. That the notice stands first is the model's reading (log 37, 12 section 12.3), and that it carries a count above
65,535 modulo 65,536 is the model's choice (log 58). -/
def Obligations.WindWindowJudgesTheCount : Prop :=
  ∀ s : State, s.Settled →
    let r := s.mot.awning
    (s.mot.windCount ≤ s.sto.live.windLimit →
      exec .windWindowEnd s = .next { s with mot := { s.mot with windCount := 0, prevAbove := false } }) ∧
    (s.sto.live.windLimit < s.mot.windCount → s.mot.windHold = false → s.mot.prevAbove = false → r.state = .running → r.backOff = none →
      ∃ t, exec .windWindowEnd s = .next t ∧ t.mot.windCount = 0 ∧ t.mot.prevAbove = true ∧ t.mot.windHold = true ∧ t.mot.calmTimer = true ∧
        (r.outwardSegment = true → t.mot.awning.state = .stopping ∧ t.mot.awning.continuation = some (.halt .wind) ∧
          (t.bridge .awning).requested = .brake) ∧
        (r.outwardSegment = false → t.mot.awning = r ∧ t.out = s.out) ∧
        t.mot.step = s.mot.step ∧ t.mot.sense = s.mot.sense ∧ t = { s with mot := t.mot, out := t.out }) ∧
    (s.sto.live.windLimit < s.mot.windCount → (s.mot.windHold = true ∨ r.outwardSegment = false) → r.stowed = true →
      exec .windWindowEnd s = .next { s with mot := { s.mot with
        windCount := 0, prevAbove := true, windHold := true, calmTimer := true } }) ∧
    (s.sto.live.windLimit < s.mot.windCount → s.mot.windHold = true → s.mot.prevAbove = true → r.stowed = false → r.runsSource .wind = false →
      r.runsSource .lock = false → r.towardFault = false →
      ∃ t, exec .windWindowEnd s = .next t ∧ SafetyRetract .awning .wind t ∧ t.mot.windCount = 0 ∧ t.mot.prevAbove = true ∧
        t.mot.windHold = true ∧ t.mot.calmTimer = true ∧
        (∀ p, ((s.port p).push ⟨.windRetract, 1, BitVec.ofNat 16 s.mot.windCount, s.noticeClock⟩).Grown (t.port p)) ∧
        t.scv = s.scv ∧ t.chg = s.chg ∧ t.sto = s.sto ∧ t.ldc.inputs = s.ldc.inputs ∧ t.noticeClock = s.noticeClock ∧ t.pending = s.pending)

/-- A plan given to an IDLE axis while the other holds the motor sense waits for it (R98 to R100), built as R98 gives it: EXTEND and RETRACT to their
ends, GOTO to a target clamped to the travel, jogs; a plan outward is homed first while the status is UNKNOWN, but for a jog. That the GOTO position is
unsigned is the model's reading (log 25), and so is that step (1) of R101 does not home a jog (log 19). -/
def Obligations.MoveWaitsForTheSense : Prop :=
  ∀ (a b : Axis) (tag : Byte) (s : State), s.Settled → s.isReady = true → s.panel.answer = none → a ≠ b → s.mot.sense = some b →
    (s.axis a).state = .idle → s.load (axisRecord a) = none → s.dlu.lock = .free → s.mot.stopn = false → s.mot.windHold = false →
    let r := s.axis a
    let travel := s.sto.live.travel a
    let code : Byte := if a = .step then 0 else 1
    let inner : Segment := ⟨.inward, 0, true⟩
    let outer : Segment := ⟨.outward, travel, true⟩
    let homed := fun g : Segment => if r.known then (⟨g, none, false⟩ : Plan) else ⟨inner, some g, false⟩
    let given := fun (st : Status) (plan : Plan) (mode : Mode) =>
      let u := s.setAxis a { r with
        state := .waitMotor, plan := some plan, mode := mode, source := some .panel
        jogPort := if mode = .jog then some .panel else none, jogLive := mode == .jog }
      u.answering .panel tag ⟨st, axisBytes u a⟩
    (¬ (r.known = true ∧ travel - 8 ≤ r.position) → exec (.moveExtend .panel tag code []) s = .next (given .ok (homed outer) .auto)) ∧
    (¬ (r.known = true ∧ r.position ≤ 8) → exec (.moveRetract .panel tag code []) s = .next (given .ok ⟨inner, none, false⟩ .auto)) ∧
    (∀ v : Word16, a = .awning → 0 < min v.toNat travel → ¬ (r.known = true ∧ r.position = min v.toNat travel) →
      exec (.moveGoto .panel tag code (le2 v.toNat)) s = .next (given (if travel < v.toNat then .clamped else .ok)
        (homed (if min v.toNat travel = travel then outer
          else ⟨if r.known = true ∧ min v.toNat travel < r.position then .inward else .outward, min v.toNat travel, false⟩)) .auto)) ∧
    (a = .awning → ¬ (r.known = true ∧ r.position = 0) →
      exec (.moveGoto .panel tag code [0, 0]) s = .next (given .ok ⟨inner, none, false⟩ .auto)) ∧
    exec (.moveJogOut .panel tag code []) s = .next (given .ok ⟨outer, none, false⟩ .jog) ∧
    exec (.moveJogIn .panel tag code []) s = .next (given .ok ⟨inner, none, false⟩ .jog)

/-- A MOVE that gives a one-segment plan to an IDLE axis whose position is known, with the sense free and a record that fits: the axis takes the sense,
its record is granted, and it drives at duty 96 in the segment's direction (R98 to R101, R58, R88, R89). -/
def Obligations.MoveStartsTheDrive : Prop :=
  ∀ (a : Axis) (i : Instr) (g : Segment) (mode : Mode) (tag : Byte) (s : State), s.Settled → s.isReady = true → s.panel.answer = none →
    s.mot.sense = none → (s.axis a).state = .idle → (s.axis a).known = true → s.dlu.lock = .free → s.mot.stopn = false →
    s.mot.windHold = false → s.freshFits (axisRecord a) s.sto.live.tier[axisRecord a] → (s.bridge a).effective = .coast →
    let r := s.axis a
    let travel := s.sto.live.travel a
    let code : Byte := if a = .step then 0 else 1
    ((i = .moveExtend .panel tag code [] ∧ g = ⟨.outward, travel, true⟩ ∧ mode = .auto ∧ ¬ travel - 8 ≤ r.position) ∨
      (i = .moveRetract .panel tag code [] ∧ g = ⟨.inward, 0, true⟩ ∧ mode = .auto ∧ ¬ r.position ≤ 8) ∨
      (a = .awning ∧ ∃ v : Word16, i = .moveGoto .panel tag code (le2 v.toNat) ∧ 0 < v.toNat ∧ v.toNat < travel ∧ v.toNat ≠ r.position ∧
        g = ⟨if r.position < v.toNat then .outward else .inward, v.toNat, false⟩ ∧ mode = .auto) ∨
      (i = .moveJogOut .panel tag code [] ∧ g = ⟨.outward, travel, true⟩ ∧ mode = .jog) ∨
      (i = .moveJogIn .panel tag code [] ∧ g = ⟨.inward, 0, true⟩ ∧ mode = .jog)) →
    let drive : BridgeState := if g.dir = .outward then .driveOut else .driveIn
    ∃ t, exec i s = .next t ∧
      GrantedFresh (axisRecord a) .motion 255 s.sto.live.tier[axisRecord a] none s t ∧
      t.axis a = { r with
        state := .running, plan := some ⟨g, none, false⟩, mode := mode, source := some .panel
        jogPort := if mode = .jog then some .panel else none, jogLive := mode == .jog
        continuation := none, countDir := some g.dir, lastPulse := true, firstPulse := true, overCount := 0 } ∧
      t.mot.sense = some a ∧ (∀ b, b ≠ a → t.axis b = s.axis b ∧ t.bridge b = s.bridge b) ∧ t.bridge a = ⟨drive, drive, 96, true⟩ ∧
      t.out.waiting[if g.dir = .outward then gateA a else gateB a] = some 96 ∧
      t.out.compare[if g.dir = .outward then gateB a else gateA a] = 0 ∧
      t.panel = { s.panel with receive := .hunt, answer := some (answerFrame tag ⟨.ok, axisBytes t a⟩) } ∧ othersKept .panel s t ∧
      t.scv = s.scv ∧ t.chg = s.chg ∧ t.dlu = s.dlu ∧ t.cwc = s.cwc ∧ t.sto = s.sto ∧ t.noticeClock = s.noticeClock ∧ t.pending = s.pending

/-- While the drive lock is PENDING or HELD no bridge is asked to drive OUT, and a bridge drives OUT only for an axis that is RUNNING outward: every
step keeps it, from every state where it holds (R88, R120). -/
def Obligations.StepKeepsOutwardDriveUnderTheLock : Prop :=
  ∀ s t : State, s.LockSafe → step s = .next t → t.LockSafe

/-! ## DLU and CWC -/

/-- TAKE in FREE with both axes stowed and IDLE gives HELD; with an axis out it gives PENDING, answered QUEUED, with a lock retraction and a lock-plan
mark for each axis that is not both stowed and IDLE (R120, R128, R129); once the lock is taken it changes nothing. RELEASE gives FREE with every mark
clear (R132); CWC's copy of the freeze condition follows (R126, R152). A stray pulse that makes a stowed axis UNKNOWN under HELD gives PENDING and a lock
retraction, and nothing but the status where the lock-fault mark is set (R102, R131). -/
def Obligations.DriveLockIsTakenAndReleased : Prop :=
  ∀ (tag : Byte) (s : State), s.Settled → s.isReady = true → s.chassis.answer = none → s.cwc.freeze = s.dlu.frozen →
    let moved := fun (lock : LockState) (frozen : Bool) (t : State) =>
      t.dlu.lock = lock ∧ t.cwc.freeze = frozen ∧ t.cwc.fresh.level = s.cwc.fresh.level ∧ t.cwc.grey.level = s.cwc.grey.level ∧
      (s.cwc.freeze ≠ frozen → t.cwc.fresh.frozen = frozen ∧ t.cwc.grey.frozen = frozen) ∧
      (s.cwc.freeze = frozen → t.cwc = s.cwc) ∧
      (s.cwc.freeze = false → frozen = true → t.cwc.fresh.buffer = [] ∧ t.cwc.grey.buffer = []) ∧
      t.chassis = { s.chassis with receive := .hunt, answer := some (answerFrame tag ⟨.ok, lockBlock t.dlu⟩) } ∧ othersKept .chassis s t ∧
      t.scv = s.scv ∧ t.chg = s.chg ∧ t.ldc = s.ldc ∧ t.out = s.out ∧ t.mot = s.mot ∧ t.sto = s.sto ∧ t.pending = s.pending
    (s.dlu.lock = .free → s.mot.step.stowedIdle = true → s.mot.awning.stowedIdle = true →
      ∃ t, exec (.driveLockTake .chassis tag []) s = .next t ∧ moved .held true t ∧ t.dlu = { s.dlu with lock := .held }) ∧
    (s.dlu.lock ≠ .free →
      exec (.driveLockTake .chassis tag []) s = .next (s.answering .chassis tag ⟨.ok, lockBlock s.dlu⟩) ∧
      ∃ t, exec (.driveLockRelease .chassis tag []) s = .next t ∧ moved .free s.dlu.moving t ∧
        t.dlu = { s.dlu with lock := .free, lockFault := false, stepMark := false, awningMark := false }) ∧
    (s.dlu.lock = .free →
      exec (.driveLockRelease .chassis tag []) s = .next (s.answering .chassis tag ⟨.ok, lockBlock s.dlu⟩)) ∧
    (s.dlu.lock = .free → ¬ (s.mot.step.stowedIdle = true ∧ s.mot.awning.stowedIdle = true) → (∀ a, (s.axis a).settledForLock) →
      ∃ t, exec (.driveLockTake .chassis tag []) s = .next t ∧ LockTaken s t ∧ t.chassis.receive = .hunt ∧
        t.chassis.answer = some (answerFrame tag ⟨.queued, lockBlock t.dlu⟩) ∧
        ∀ p, p ≠ .chassis → (s.port p).Grown (t.port p)) ∧
    (∀ a gap, s.dlu.lock = .held → (s.axis a).stowedIdle = true →
      (s.dlu.lockFault = true → exec (.hallPulse a gap) s = .next (s.setAxis a { s.axis a with known := false })) ∧
      (s.dlu.lockFault = false → (∀ b, (s.axis b).state = .idle) →
        ∃ t, exec (.hallPulse a gap) s = .next t ∧ t.dlu.lock = .pending ∧ t.dlu.lockFault = false ∧ t.dlu.planMark a = true ∧
          (∀ b, b ≠ a → t.dlu.planMark b = s.dlu.planMark b) ∧ SafetyRetract a .lock t ∧ (t.axis a).known = false ∧
          (t.axis a).position = (s.axis a).position ∧ (∀ p, (s.port p).Grown (t.port p)) ∧
          t.scv = s.scv ∧ t.chg = s.chg ∧ t.sto = s.sto ∧ t.ldc.inputs = s.ldc.inputs ∧ t.noticeClock = s.noticeClock ∧ t.pending = s.pending))

/-- A VEHICLE report of an engine state already in force, with no ignition-on event, from a record that is not stale (R123): the record takes it; a
report that ends a staleness says so at every port, and one that changes the engine in force hands it to LDC, whose budget follows (R123 to R125, R64).
A change of ignition to on, by a report or by staleness, retracts the step with source ENTRY where auto-step is on and the step is neither stowed and
IDLE nor under a safety plan (R117). A moving vehicle whose axes are stowed and IDLE takes a FREE lock at once, with LOCK_SELF value 2, and one with an axis out takes it PENDING, with the lock
retractions of R129 and LOCK_SELF value 1 at the chassis and the panel (R133). The staleness timer (R124): the record is stale,
with VEHICLE_STALE value 1 at every port. -/
def Obligations.VehicleReportsAndStaleness : Prop :=
  ∀ (tag i e m : Byte) (s : State), s.Settled → s.cwc.freeze = s.dlu.frozen →
    (s.isReady = true → s.canTake ⟨.chassis, tag, [i, e, m]⟩ → i.toNat ≤ 1 → e.toNat ≤ 1 → m.toNat ≤ 1 → s.dlu.stale = false →
      s.dlu.engineInForce = (e == 1) → (i = 1 → s.dlu.ignition = true) →
      (m = 1 → s.dlu.lock = .free → s.mot.step.stowedIdle = true ∧ s.mot.awning.stowedIdle = true) →
      let self := m = 1 ∧ s.dlu.lock = .free
      ∃ t, exec (.vehicle ⟨.chassis, tag, [i, e, m]⟩) s = .next t ∧
        t.dlu = { s.dlu with
          ignition := i == 1, engine := e == 1, moving := m == 1, age := some 0, staleTimer := i == 1
          lock := if m = 1 ∧ s.dlu.lock = .free then .held else s.dlu.lock } ∧
        t.cwc.freeze = t.dlu.frozen ∧ (s.cwc.freeze = t.dlu.frozen → t.cwc = s.cwc) ∧
        t.chassis = { (if self then s.chassis.push ⟨.lockSelf, 0, 2, s.noticeClock⟩ else s.chassis) with
          receive := .hunt, answer := some (answerFrame tag ⟨.ok, lockBlock t.dlu⟩) } ∧
        t.panel = (if self then s.panel.push ⟨.lockSelf, 0, 2, s.noticeClock⟩ else s.panel) ∧ t.gateway = s.gateway ∧
        t.scv = s.scv ∧ t.chg = s.chg ∧ t.ldc = s.ldc ∧ t.out = s.out ∧ t.mot = s.mot ∧ t.sto = s.sto ∧ t.pending = s.pending) ∧
    (s.isReady = true → s.canTake ⟨.chassis, tag, [i, e, 1]⟩ → i.toNat ≤ 1 → e.toNat ≤ 1 → s.dlu.stale = false →
      s.dlu.engineInForce = (e == 1) → (i = 1 → s.dlu.ignition = true) → s.dlu.lock = .free →
      ¬ (s.mot.step.stowedIdle = true ∧ s.mot.awning.stowedIdle = true) → (∀ a, (s.axis a).settledForLock) →
      ∃ t, exec (.vehicle ⟨.chassis, tag, [i, e, 1]⟩) s = .next t ∧ LockTaken s t ∧ t.dlu.ignition = (i == 1) ∧ t.dlu.engine = (e == 1) ∧
        t.dlu.moving = true ∧ t.dlu.age = some 0 ∧ t.dlu.staleTimer = (i == 1) ∧
        t.chassis.answer = some (answerFrame tag ⟨.ok, lockBlock t.dlu⟩) ∧
        (∃ q, s.chassis.Grown q ∧ t.chassis = { q.push ⟨.lockSelf, 0, 1, s.noticeClock⟩ with receive := .hunt, answer := t.chassis.answer }) ∧
        (∃ q, s.panel.Grown q ∧ t.panel = q.push ⟨.lockSelf, 0, 1, s.noticeClock⟩) ∧ s.gateway.Grown t.gateway) ∧
    (s.isReady = true → s.canTake ⟨.chassis, tag, [i, e, m]⟩ → i.toNat ≤ 1 → e.toNat ≤ 1 → m.toNat ≤ 1 →
      (i = 1 → s.dlu.ignition = true ∨ s.dlu.stale = true) → s.ldc.engine = s.dlu.engineInForce →
      ((s.dlu.lock = .free ∧ m = 0) ∨ (s.dlu.lock ≠ .free ∧ s.dlu.engineInForce = (e == 1))) →
      ∃ t, exec (.vehicle ⟨.chassis, tag, [i, e, m]⟩) s = .next t ∧
        t.dlu = { s.dlu with
          ignition := i == 1, engine := e == 1, moving := m == 1, age := some 0, staleTimer := i == 1, stale := false, engineInForce := e == 1 } ∧
        t.ldc.engine = (e == 1) ∧ t.cwc.freeze = t.dlu.frozen ∧
        (s.dlu.engineInForce = (e == 1) → t.ldc = s.ldc ∧ t.out = s.out ∧ t.mot = s.mot) ∧
        (s.dlu.engineInForce ≠ (e == 1) → t.ldc.budget = s.sto.live.batteryLimit + (if s.ldc.supply then s.sto.live.shoreAllowance else 0)
          + (if e = 1 then s.sto.live.alternatorAllowance else 0)) ∧
        (s.dlu.stale = true → ∀ p, Queued p ⟨.vehicleStale, 0, 0, s.noticeClock⟩ s t) ∧
        t.chassis.receive = .hunt ∧ t.chassis.answer = some (answerFrame tag ⟨.ok, lockBlock t.dlu⟩) ∧
        (∀ p, p ≠ .chassis → (s.port p).Grown (t.port p)) ∧
        t.scv = s.scv ∧ t.chg = s.chg ∧ t.sto = s.sto ∧ t.noticeClock = s.noticeClock ∧ t.pending = s.pending) ∧
    (∀ staled, (staled = true ∧ s.dlu.staleTimer = true) ∨ (staled = false ∧ s.isReady = true ∧ s.canTake ⟨.chassis, tag, [1, e, m]⟩ ∧
        e.toNat ≤ 1 ∧ m.toNat ≤ 1 ∧ s.dlu.engineInForce = (e == 1) ∧ s.dlu.ignition = false ∧ s.dlu.stale = false ∧
        (m = 0 ∨ s.dlu.lock ≠ .free)) →
      let r := s.mot.step
      let acts := s.sto.live.autoStep = true ∧ r.stowedIdle = false ∧ r.runsSource .lock = false ∧ r.runsSource .wind = false
      ∃ t, exec (if staled then .stalenessTimerExpiry else .vehicle ⟨.chassis, tag, [1, e, m]⟩) s = .next t ∧
        (staled = true → t.dlu.stale = true ∧ t.dlu.staleTimer = false ∧
          ∀ p, ((s.port p).push ⟨.vehicleStale, 0, 1, s.noticeClock⟩).Grown (t.port p)) ∧
        (staled = false → t.dlu.ignition = true ∧ t.dlu.engine = (e == 1) ∧ t.dlu.moving = (m == 1) ∧ t.dlu.age = some 0 ∧
          t.dlu.staleTimer = true ∧ t.dlu.stale = false) ∧
        (¬ acts → t.mot = s.mot ∧ t.ldc = s.ldc ∧ t.out = s.out) ∧
        (acts → r.towardFault = true → t.ldc = s.ldc ∧ t.out = s.out ∧
          t.mot = { s.mot with step := { r with held := if r.held = some .lock then some .lock else some .entry } }) ∧
        (acts → r.towardFault = false → (t.axis .step).plan = some ⟨⟨.inward, 0, true⟩, none, false⟩ ∧
          (t.axis .step).source = some .entry ∧ (t.axis .step).mode = .auto ∧ (t.axis .step).jogLive = false ∧
          (t.axis .step).faultKind = (if r.state = .fault then none else r.faultKind) ∧
          ∀ l, t.load 12 = some l → l.tier = s.sto.live.tier[12]) ∧
        t.scv = s.scv ∧ t.chg = s.chg ∧ t.sto = s.sto ∧ t.ldc.inputs = s.ldc.inputs ∧ t.noticeClock = s.noticeClock ∧
        t.pending = s.pending) ∧
    (s.dlu.staleTimer = true → (s.sto.live.autoStep = false ∨ s.mot.step.stowedIdle = true) →
      ∃ t, exec .stalenessTimerExpiry s = .next t ∧ t.dlu = { s.dlu with stale := true, staleTimer := false } ∧
        (∀ p, t.port p = (s.port p).push ⟨.vehicleStale, 0, 1, s.noticeClock⟩) ∧
        t.scv = s.scv ∧ t.chg = s.chg ∧ t.ldc = s.ldc ∧ t.out = s.out ∧ t.mot = s.mot ∧ t.cwc = s.cwc ∧ t.sto = s.sto ∧ t.pending = s.pending)

/-- The minimum-off timer runs out (R140, R141): a cold cabin asks for HEAT, which is granted where it fits; in OFF, or with a cabin that is warm,
only the timer ends. CWC's fallback call (R142): a GATED HEAT is requested at ESSENTIAL, and granted where it fits; that FALLBACK_REQUEST is
taken so also where no call waits is the model's choice (log 60). -/
def Obligations.HeatIsRequested : Prop :=
  ∀ s : State, s.Settled →
    let heated := fun (tier : Tier) (t : State) =>
      (∃ stamp order, t.load outHeat = some ⟨.climate, 255, tier, stamp, none, .granted order s.sto.live.declared[outHeat]⟩) ∧
      (∀ m, m ≠ outHeat → (t.load m).map Load.unnumbered = (s.load m).map Load.unnumbered) ∧ t.ldc.inputs = s.ldc.inputs ∧
      t.out.target[outHeat] = 255 ∧ (∀ m, m ≠ outHeat → t.out.target[m] = s.out.target[m] ∧ t.out.level[m] = s.out.level[m]) ∧
      (∀ a, t.bridge a = s.bridge a) ∧ (∀ p, t.port p = s.port p) ∧
      t.scv = s.scv ∧ t.chg = s.chg ∧ t.mot = s.mot ∧ t.dlu = s.dlu ∧ t.sto = s.sto ∧ t.noticeClock = s.noticeClock ∧ t.pending = s.pending
    (∀ (k : Nat) (cabin target : Int), s.cwc.minOff = some k → s.cwc.effectiveTarget = some target → s.cwc.tCabin = ⟨some cabin, false⟩ →
      cabin ≤ target - 5 → s.cwc.demand = false → s.freshFits outHeat s.heatTier →
      ∃ t, exec .minimumOffExpiry s = .next t ∧ heated s.heatTier t ∧ t.cwc = { s.cwc with minOff := none, demand := true } ∧
        t.calls = s.calls) ∧
    (∀ k : Nat, s.cwc.minOff = some k → s.cwc.demand = false →
      (s.cwc.effMode = .off ∨ ∃ cabin target : Int, s.cwc.effectiveTarget = some target ∧ s.cwc.tCabin = ⟨some cabin, false⟩ ∧
        target - 5 < cabin) →
      exec .minimumOffExpiry s = .next { s with cwc := { s.cwc with minOff := none } }) ∧
    (s.cwc.effMode = .fallback → s.gated outHeat = true → s.pendingList = [] → s.holdingReason outHeat .essential = none →
      s.grantedSum + s.sto.live.declared[outHeat] ≤ s.ldc.budget →
      ∃ t, exec .fallbackRequest s = .next t ∧ heated .essential t ∧ t.cwc = s.cwc ∧ t.calls = s.calls.erase .fallback) ∧
    (¬ (s.cwc.effMode = .fallback ∧ s.gated outHeat = true) →
      exec .fallbackRequest s = .next { s with calls := s.calls.erase .fallback })

/-- DUMP_NOW from the panel dumps, with the dumped hold set, DUMP released and FROST_DUMP subject 3 (R147, R149). CLOSE in DUMPED with the water warm
clears the hold and requests DUMP: CLOSED and OK once it is granted, CLOSING and QUEUED until then; CLOSE where the valve is closed or closing is OK,
and in the cold it is refused COLD (R148, R149). -/
def Obligations.DumpAndCloseMoveTheValve : Prop :=
  ∀ (p : Port) (tag : Byte) (s : State), s.Settled → s.isReady = true → p ≠ .chassis → (s.port p).answer = none →
    (p = .panel → s.cwc.dump ≠ .dumped →
      ∃ t, exec (.dumpNow p tag []) s = .next t ∧ t.cwc.dump = .dumped ∧ t.ldc.dumpedHold = true ∧ t.load outDump = none ∧
        (∀ q, q ≠ p → ∃ u, (s.port q).Grown u ∧
          (u.push ⟨.frostDump, 3, BitVec.ofInt 16 (s.cwc.temp.value.getD (-32768)), s.noticeClock⟩).Grown (t.port q)) ∧
        (t.port p).answer = some (answerFrame tag ⟨.ok, climateBlock t⟩) ∧ t.cwc.temp = s.cwc.temp ∧ t.cwc.setMode = s.cwc.setMode ∧
        t.scv = s.scv ∧ t.chg = s.chg ∧ t.sto = s.sto ∧ t.noticeClock = s.noticeClock ∧ t.pending = s.pending) ∧
    (p = .panel → s.cwc.dump = .dumped → exec (.dumpNow p tag []) s = .next (s.answering p tag ⟨.ok, climateBlock s⟩)) ∧
    (∀ temp, s.cwc.dump = .dumped → s.cwc.temp.value = some temp → s.sto.live.dumpThreshold + 10 < temp → s.load outDump = none →
      ∃ t, exec (.dumpClose p tag []) s = .next t ∧ t.ldc.dumpedHold = false ∧ (t.load outDump).isSome = true ∧
        t.cwc.dump = (if t.granted outDump then .closed else .closing) ∧
        (t.port p).answer = some (answerFrame tag ⟨if t.cwc.dump = .closed then .ok else .queued, climateBlock t⟩) ∧
        t.cwc.temp = s.cwc.temp ∧ t.scv = s.scv ∧ t.chg = s.chg ∧ t.sto = s.sto ∧ t.noticeClock = s.noticeClock ∧ t.pending = s.pending) ∧
    ((s.cwc.dump = .closed ∨ s.cwc.dump = .closing) → exec (.dumpClose p tag []) s = .next (s.answering p tag ⟨.ok, climateBlock s⟩)) ∧
    ((s.cwc.dump = .startup ∨ (s.cwc.dump = .dumped ∧ ∀ temp, s.cwc.temp.value = some temp → temp ≤ s.sto.live.dumpThreshold + 10)) →
      exec (.dumpClose p tag []) s = .next (s.answering p tag ⟨.cold, []⟩))

/-- SET_CLIMATE while HEAT is not requested (R138, R139): set mode and target, clamped to 10.0 to 28.0 °C; the effective mode is the set mode, or
FALLBACK for ECO and COMFORT while the tier of HEAT is not OPEN; CLIMATE_CHANGED goes to the other of panel and gateway. -/
def Obligations.SetClimateSetsModeAndTarget : Prop :=
  ∀ (p : Port) (tag lo hi : Byte) (mode : HeatMode) (s : State), s.Settled → s.isReady = true → p ≠ .chassis → mode ≠ .fallback →
    s.canTake ⟨p, tag, [byteOf mode.code, lo, hi]⟩ → s.cwc.demand = false → s.load outHeat = none →
    let sent := (hi ++ lo).toInt
    let target := max 100 (min 280 sent)
    let q : Port := if p = .panel then .gateway else .panel
    let effective := if (mode = .eco ∨ mode = .comfort) ∧ tierCondition s.ldc s.sto.live.tier[outHeat] ≠ .isOpen then .fallback else mode
    let u := { s with cwc := { s.cwc with setMode := mode, effMode := effective, target := target } }
    let v := u.setPort q ((s.port q).push ⟨.climateChanged, 0, BitVec.ofNat 16 mode.code, s.noticeClock⟩)
    exec (.setClimate ⟨p, tag, [byteOf mode.code, lo, hi]⟩) s =
      .next (v.answering p tag ⟨if target = sent then .ok else .clamped, climateBlock u⟩)

/-! ## Requests and ports -/

/-- The requests that only read are answered OK with their record, at every port that may send them, and change nothing (R28, R61, R62, R121, R155,
R171). The bytes of the answers for which 11 gives no table are the model's layout (log 26, by the sizes of R179; logs 52, 55, 58 for single items). -/
def Obligations.ReadRequestsChangeNothing : Prop :=
  ∀ (p : Port) (tag : Byte) (s : State), (s.port p).answer = none → s.isReady = true →
    (∀ n : Fin 14, exec (.getLoad ⟨p, tag, [byteOf n.val]⟩) s = .next (s.answering p tag ⟨.ok, loadRecordBytes s n⟩)) ∧
    exec (.getLoads ⟨p, tag, []⟩) s = .next (s.answering p tag ⟨.ok, summaryRecord s⟩) ∧
    (∀ k : Fin 8, exec (.getScene ⟨p, tag, [byteOf k.val]⟩) s =
      .next (s.answering p tag ⟨.ok, (s.ldc.scenes[k]).flatMap (fun e => le2 e.output.val ++ le2 e.level.toNat)⟩)) ∧
    exec (.getMotion ⟨p, tag, []⟩) s = .next (s.answering p tag ⟨.ok, motionRecord s⟩) ∧
    exec (.getClimate ⟨p, tag, []⟩) s = .next (s.answering p tag ⟨.ok, climateBlock s⟩) ∧
    exec (.getTanks ⟨p, tag, []⟩) s = .next (s.answering p tag ⟨.ok, tanksRecord s⟩) ∧
    (∀ id i, SettingId.ofNat id = some i → exec (.getSetting ⟨p, tag, [byteOf id]⟩) s =
      .next (s.answering p tag ⟨.ok, settingRecord s (byteOf id) i⟩)) ∧
    (p ≠ .chassis → ∀ start : Byte,
      exec (.getHistory ⟨p, tag, [0, start]⟩) s = .next (s.answering p tag ⟨.ok, historyRecord 0 start s.chg.minuteSeq
        s.chg.minuteRing.length (((s.chg.minuteRing.drop start.toNat).take 12).map le4)⟩) ∧
      exec (.getHistory ⟨p, tag, [1, start]⟩) s = .next (s.answering p tag ⟨.ok, historyRecord 1 start s.chg.hourSeq
        s.chg.hourRing.length (((s.chg.hourRing.drop start.toNat).take 6).map hourBytes)⟩))

/-- IDENT is taken from every port at any time and carries the items of R178 in its twelve bytes; with a payload it is answered BAD_LENGTH. Either way
nothing changes. -/
def Obligations.IdentCarriesItsItems : Prop :=
  ∀ (p : Port) (tag : Byte) (s : State),
    ((s.port p).answer = none →
      exec (.ident ⟨p, tag, []⟩) s = .next (s.answering p tag ⟨.ok,
        [0x12, 0x48, 1, if s.sto.cause = .powerOn then 0 else 1, if s.sto.phase = .ready then 1 else 0, if s.sto.recordGood then 0 else 1,
          if s.sto.writing = none then 0 else 1, if s.sto.heldCheckpoint then 1 else 0,
          s.sto.writeCount.extractLsb' 0 8, s.sto.writeCount.extractLsb' 8 8, s.noticeClock.extractLsb' 0 8, s.noticeClock.extractLsb' 8 8]⟩)) ∧
    (∀ payload, payload ≠ [] → s.canTake ⟨p, tag, payload⟩ →
      exec (.ident ⟨p, tag, payload⟩) s = .next (s.answering p tag ⟨.badLength, []⟩))

/-- GET_ENERGY reports the overrun and current-saturated marks in its last byte and clears them, and changes nothing else (R14, R41). -/
def Obligations.GetEnergyReportsAndClearsMarks : Prop :=
  ∀ (p : Port) (tag : Byte) (s : State), (s.port p).answer = none →
    exec (.getEnergy ⟨p, tag, []⟩) s =
      .next ({ s with scv := { s.scv with overrun := false, saturated := false } }.answering p tag ⟨.ok, energyRecord s⟩) ∧
    (energyRecord s).length = 26 ∧
    (∃ marks, (energyRecord s)[25]? = some marks ∧ marks.getLsbD 6 = s.scv.overrun ∧ marks.getLsbD 7 = s.scv.saturated ∧
      marks.getLsbD 5 = s.scv.refFault)

/-- FETCH, before READY and after it, takes the four oldest notices, answers them oldest first with the count left and the overflow mark, and clears the
mark; the attention line is low afterwards while a notice is left. With a payload it is answered BAD_LENGTH (R169). -/
def Obligations.FetchTakesFourOldest : Prop :=
  ∀ (p : Port) (tag : Byte) (s : State), s.QueuesBounded →
    let q := s.port p
    let fetched : PortState := {
      receive := .hunt
      answer := some (answerFrame tag ⟨.ok,
        [BitVec.ofNat 8 (min 4 q.queue.length), BitVec.ofNat 8 (q.queue.length - 4), if q.overflow then 1 else 0]
          ++ (q.queue.take 4).flatMap (fun x => [byteOf x.kind.code, x.subject] ++ le2 x.value.toNat ++ le2 x.stamp.toNat)⟩)
      queue := q.queue.drop 4
      overflow := false }
    (q.answer = none → exec (.fetch ⟨p, tag, []⟩) s = .next (s.setPort p fetched) ∧
      fetched.attentionLow = decide (4 < q.queue.length)) ∧
    (∀ payload, payload ≠ [] → s.canTake ⟨p, tag, payload⟩ →
      exec (.fetch ⟨p, tag, payload⟩) s = .next (s.answering p tag ⟨.badLength, []⟩))

/-- A kind outside the catalogue is answered UNKNOWN_KIND (R162), and a request refused with any code changes nothing and carries no payload
(R164), whatever its kind, its port, its payload and the state. -/
def Obligations.RefusedRequestsChangeNothing : Prop :=
  (∀ (kind : Byte) (f : Frame) (s : State), knownKind kind = false → s.canTake f →
    exec (.unknownKind kind f) s = .next (s.answering f.port f.tag ⟨.unknownKind, []⟩)) ∧
  (∀ (kind : Byte) (p : Port) (payload : List Byte) (s : State),
    (handlerOf kind p payload s).2.status.carriedOut = false → handlerOf kind p payload s = (s, ⟨(handlerOf kind p payload s).2.status, []⟩))

/-- A kind marked "no" for a port is answered NO_RIGHT from that port, before READY and after it and whatever the payload (R163). Before READY the
reading kinds GET_LOAD, GET_LOADS, GET_SCENE, GET_MOTION, GET_CLIMATE, GET_TANKS and GET_SETTING are answered NOT_READY from every port and whatever the
payload, and so are the kinds that only some ports may send, from the ports that may send them; MOVE is so with a payload that names an axis and a
command of it (R162, R163, R177). IDENT, GET_ENERGY and FETCH are carried out before READY too (R163): they have their own statements. -/
def Obligations.PortsKeepTheirRights : Prop :=
  ∀ (kind : Byte) (payload : List Byte) (s : State),
    (kind ∈ [3, 4, 7, 8, 9, 15, 17, 20, 21] → handlerOf kind .chassis payload s = (s, ⟨.noRight, []⟩)) ∧
    (kind ∈ [4, 9, 13, 14, 20, 21] → handlerOf kind .gateway payload s = (s, ⟨.noRight, []⟩)) ∧
    (kind ∈ [13, 14] → handlerOf kind .panel payload s = (s, ⟨.noRight, []⟩)) ∧
    (∀ p, kind ∈ [5, 6, 10, 12, 16, 18, 19] → s.isReady = false → handlerOf kind p payload s = (s, ⟨.notReady, []⟩)) ∧
    (kind ∈ [3, 4, 7, 8, 9, 15, 17, 20, 21] → s.isReady = false → handlerOf kind .panel payload s = (s, ⟨.notReady, []⟩)) ∧
    (kind ∈ [13, 14] → s.isReady = false → handlerOf kind .chassis payload s = (s, ⟨.notReady, []⟩)) ∧
    (kind ∈ [3, 7, 8, 15, 17] → s.isReady = false → handlerOf kind .gateway payload s = (s, ⟨.notReady, []⟩)) ∧
    (∀ (p : Port) (axis cmd : Byte) (rest : List Byte), kind = 11 → payload = axis :: cmd :: rest → axis.toNat ≤ 1 → cmd.toNat ≤ 6 →
      rest.length = (if cmd = 2 then 2 else 0) → (cmd = 2 → axis = 1) → s.isReady = false →
      handlerOf kind p payload s = (s, ⟨.notReady, []⟩))

/-- A byte is judged in the receive state that stands when it arrives (R157, R158, R160). -/
def Obligations.ReceiverJudgesEachByte : Prop :=
  ∀ (p : Port) (byte : Byte) (s : State),
    let q := s.port p
    let becomes := fun r : Receive => exec (.uartByteComplete p byte true) s = .next (s.setPort p { q with receive := r })
    (q.answer ≠ none → ∀ stopBit, exec (.uartByteComplete p byte stopBit) s = .next s) ∧
    (q.answer = none →
      exec (.uartByteComplete p byte false) s = .next (s.setPort p { q with receive := .hunt }) ∧
      (q.receive = .hunt → becomes (if byte = 0xC3 then .length else .hunt)) ∧
      (q.receive = .length → becomes (if byte.toNat ≤ 56 then .kind byte (crc8 [byte]) else .hunt)) ∧
      (∀ len crc, q.receive = .kind len crc → becomes (.tag len byte (crc8Byte crc byte))) ∧
      (∀ len kind crc, q.receive = .tag len kind crc →
        becomes (if 0 < len.toNat then .body len kind byte [] (crc8Byte crc byte) else .check kind byte [] (crc8Byte crc byte))) ∧
      (∀ len kind tag got crc, q.receive = .body len kind tag got crc →
        becomes (if got.length + 1 < len.toNat then .body len kind tag (got ++ [byte]) (crc8Byte crc byte)
          else .check kind tag (got ++ [byte]) (crc8Byte crc byte))) ∧
      (∀ kind tag got crc, q.receive = .check kind tag got crc → byte ≠ crc → becomes .hunt))

/-- The bytes of a request frame, coming one after another to a port that waits in HUNT and IDLE, carry out the request command of that frame and
nothing else (R157, R159, R161). -/
def Obligations.FrameBytesCarryOutTheRequest : Prop :=
  ∀ (i : Instr) (kind : Byte) (f : Frame) (rest : List Instr) (s : State), i.frame = some (kind, f) → i.wf = true →
    (s.port f.port).receive = .hunt → (s.port f.port).answer = none →
    Host.Core.run Sys2Proof.core (f.payload.length + 5)
      { s with pending := byteCommands f.port (requestFrame kind f.tag f.payload) ++ rest } = exec i { s with pending := rest }

/-- A frame in progress is abandoned by its own causes and by its gap timer, and nothing else changes (R158); the end of an answer gives IDLE (R160). A
link reset gives HUNT and an empty queue with no overflow mark, and leaves the rest where no jog is the port's; a RUNNING jog of the port is halted,
and one that stops toward STANDBY, its next segment, or the same one again ends there (R165, R115), and so, by the model's reading (log 51), does one
that stops to drive the other way. The model's choice (log 1): a cause that the receive state cannot show, and the end of an answer that is not being sent, change
nothing. -/
def Obligations.PortsAbandonFinishAndReset : Prop :=
  ∀ (p : Port) (s : State), s.Settled →
    let q := s.port p
    (∀ cause, exec (.frameAbandoned p cause) s = .next (s.setPort p { q with
      receive := match cause, q.receive with
        | .badLength, .length => .hunt
        | .framingError, _ => .hunt
        | .badCrc, .check _ _ _ _ => .hunt
        | _, r => r })) ∧
    exec (.gapTimerExpiry p) s = .next (s.setPort p { q with receive := .hunt }) ∧
    exec (.answerComplete p) s = .next (s.setPort p { q with answer := none }) ∧
    (q.answer ≠ none → exec (.linkReset p) s = .next s) ∧
    (q.answer = none → (∀ a, ¬ ((s.axis a).mode = .jog ∧ (s.axis a).jogPort = some p)) →
      exec (.linkReset p) s = .next (s.setPort p { q with receive := .hunt, queue := [], overflow := false })) ∧
    (∀ a, q.answer = none → (s.axis a).mode = .jog → (s.axis a).jogPort = some p → (s.axis a).state = .running → (s.axis a).backOff = none →
      (∀ b, b ≠ a → ¬ ((s.axis b).mode = .jog ∧ (s.axis b).jogPort = some p)) →
      ∃ t, exec (.linkReset p) s = .next t ∧ t.port p = { q with receive := .hunt, queue := [], overflow := false } ∧
        (t.axis a).state = .stopping ∧ (t.axis a).continuation = some (.halt .linkReset) ∧ (t.bridge a).requested = .brake ∧
        OnlyAxis a (s.setPort p { q with receive := .hunt, queue := [], overflow := false }) t) ∧
    (∀ a c, q.answer = none → (s.axis a).mode = .jog → (s.axis a).jogPort = some p → (s.axis a).state = .stopping →
      (s.axis a).continuation = some c → (c = .standby ∨ c = .resume ∨ c = .next ∨ c = .newPlan) →
      (∀ b, b ≠ a → ¬ ((s.axis b).mode = .jog ∧ (s.axis b).jogPort = some p)) →
      exec (.linkReset p) s = .next ((s.setPort p { q with receive := .hunt, queue := [], overflow := false }).setAxis a
        { s.axis a with continuation := some (.halt .linkReset), backOff := none }))

/-- Every step keeps each notice queue at eight notices or fewer (R167), and leaves no report of LDC on which MOT has not acted (R54, log 14): the premise
`Settled` of other statements holds after every step from a state where it holds. -/
def Obligations.StepKeepsQueuesBounded : Prop :=
  (∀ s t : State, s.QueuesBounded → step s = .next t → t.QueuesBounded) ∧
  (∀ s t : State, s.Settled → step s = .next t → t.Settled)

/-! ## Settings and the stored record -/

/-- A checkpoint request starts a write in IDLE, with its contents taken then, and is held in WRITING; only the fifteenth push returns the
count of pushes to 0 (R40, R173). The completion of a write stores its bytes, counts it and starts a held checkpoint write. SAVE_SETTINGS takes the
live settings and the scenes as the image and starts a write, or is refused NOT_READY during one (R173). The model's choice (log 1): the completion of
a write with none under way changes nothing. -/
def Obligations.WritesStartHoldAndComplete : Prop :=
  ∀ s : State, s.Settled →
    (s.sto.writing = none →
      exec (.checkpointRequest .criticalEntry) s = .next { s with sto := { s.sto with writing := some (recordBytes s) } } ∧
      exec (.checkpointRequest .fifteenthPush) s =
        .next { s with chg := { s.chg with checkpointPushes := 0 }, sto := { s.sto with writing := some (recordBytes s) } } ∧
      exec .writeComplete s = .next s) ∧
    (∀ bytes, s.sto.writing = some bytes →
      exec (.checkpointRequest .criticalEntry) s = .next { s with sto := { s.sto with heldCheckpoint := true } } ∧
      exec (.checkpointRequest .fifteenthPush) s =
        .next { s with chg := { s.chg with checkpointPushes := 0 }, sto := { s.sto with heldCheckpoint := true } } ∧
      exec .writeComplete s = .next { s with sto := { s.sto with
        writing := if s.sto.heldCheckpoint then some (recordBytes s) else none
        stored := .written bytes, writeCount := s.sto.writeCount + 1, recordGood := true, heldCheckpoint := false } }) ∧
    (∀ tag, s.panel.answer = none → s.isReady = true →
      (s.sto.writing ≠ none → exec (.saveSettings ⟨.panel, tag, []⟩) s = .next (s.answering .panel tag ⟨.notReady, []⟩)) ∧
      (s.sto.writing = none →
        let u := { s with sto := { s.sto with image := s.sto.live, imageScenes := s.ldc.scenes } }
        exec (.saveSettings ⟨.panel, tag, []⟩) s =
          .next ({ u with sto := { u.sto with writing := some (recordBytes u) } }.answering .panel tag ⟨.ok, []⟩)))

/-- PUT_SETTING (R172). Of a scalar that no block acts on at once, the live value is the value clamped to its range, CRITICAL also to LVD - 300 (R18);
the image stays, and the answer is OK, or CLAMPED where the value taken differs; nothing else changes. Of every scalar the value is taken so, a floor
clamped to its neighbours too (R67), and the block whose setting it is acts on it: LVD takes CRITICAL down with it (R18), a changed Cap clamps C and the
status is ESTIMATED (R18), the terms of B form it anew (R64), a floor judges the gates and a dim cap the drives (R68, R75), a changed travel makes the axis
UNKNOWN and its plan fit (R95), the dump threshold judges the cold (R147), the fresh low the level held (R153). A tier is taken as it is, that of HEAT
looks at its condition (R143); OCV enable sets the rest state (R34); a table is taken whole where it is valid, and is refused BAD_TABLE where it is not
(R18, R137), a factor table with the SoC that follows (R24). That a value put that already stood is no change is the model's reading (log 28), and that a new travel leaves the drive of a RUNNING axis as it is the
model's choice (log 48). -/
def Obligations.PutSettingTakesTheClampedValue : Prop :=
  (∀ (tag : Byte) (id : Nat) (i : SettingId) (v : Int) (s : State), SettingId.ofNat id = some i → s.Settled → s.isReady = true →
    s.panel.answer = none → -2147483648 ≤ v → v < 2147483648 →
    (i ∈ [.zeroOffset, .eta, .restThreshold, .restPeriod, .fullVoltage, .tailCurrent, .criticalVoltage, .backOff, .windLimit, .calmPeriod,
      .greyFull] ∨ (∃ n, i = .declared n) ∨ (∃ n, i = .fadeRate n) ∨ (∃ a, i = .trip a)) →
    let inside := max i.range.1 (min i.range.2 v)
    let taken := if i = .criticalVoltage then min inside ((s.sto.live.lvdVoltage : Int) - 300) else inside
    let u := { s with sto := { s.sto with live := s.sto.live.put i (.scalar taken) } }
    exec (.putSetting ⟨.panel, tag, byteOf id :: le4 v⟩) s =
      .next (u.answering .panel tag ⟨if taken = v then .ok else .clamped, settingRecord u (byteOf id) i⟩)) ∧
  (∀ (tag : Byte) (id : Nat) (i : SettingId) (v : Int) (s : State), SettingId.ofNat id = some i → i.form = .scalar → s.Settled →
    s.isReady = true → s.panel.answer = none → -2147483648 ≤ v → v < 2147483648 →
    let st := s.sto.live
    let inside := max i.range.1 (min i.range.2 v)
    let taken : Int := match i with
      | .criticalVoltage => min inside ((st.lvdVoltage : Int) - 300)
      | .floor .essential => min inside st.floorComfort
      | .floor .comfort => if inside < st.floorEssential then st.floorEssential else if st.floorLeisure < inside then st.floorLeisure else inside
      | .floor .leisure => max inside st.floorComfort
      | _ => inside
    let put := st.put i (.scalar taken)
    let live := if i = .lvdVoltage then { put with criticalVoltage := min put.criticalVoltage (put.lvdVoltage - 300) } else put
    let alone := fun t : State => t.chg = s.chg ∧ t.ldc = s.ldc ∧ t.out = s.out ∧ t.mot = s.mot ∧ t.dlu = s.dlu ∧ t.cwc = s.cwc
    ∃ t, exec (.putSetting ⟨.panel, tag, byteOf id :: le4 v⟩) s = .next t ∧ t.sto = { s.sto with live := live } ∧ t.panel.receive = .hunt ∧
      t.panel.answer = some (answerFrame tag ⟨if taken = v then .ok else .clamped, settingRecord t (byteOf id) i⟩) ∧
      t.scv = s.scv ∧ t.noticeClock = s.noticeClock ∧ t.pending = s.pending ∧
      (i = .lvdVoltage → alone t) ∧
      (i = .cap → taken = st.cap → alone t) ∧
      (i = .cap → taken ≠ st.cap → t.chg.content = min s.chg.content live.cap ∧
        t.chg.residue = (if live.cap < s.chg.content then 0 else s.chg.residue) ∧ t.chg.synced = false ∧
        t.chg.soc = (if s.chg.accountSet then min 1000 (t.chg.content * 1000 / t.usable) else s.chg.soc) ∧ SocHandedOn s t) ∧
      (i = .batteryLimit ∨ i = .shoreAllowance ∨ i = .alternatorAllowance → t.chg = s.chg ∧ t.ldc.budget = live.batteryLimit
        + (if s.ldc.supply then live.shoreAllowance else 0) + (if s.ldc.engine then live.alternatorAllowance else 0)) ∧
      (∀ k, i = .floor k → t.chg = s.chg ∧ t.ldc.soc = s.ldc.soc ∧ (s.ldc.soc = none → t.ldc.gateOpen = s.ldc.gateOpen) ∧
        (∀ soc, s.ldc.soc = some soc → GateJudged live.floorEssential soc s.ldc.gateOpen.essential t.ldc.gateOpen.essential ∧
          GateJudged live.floorComfort soc s.ldc.gateOpen.comfort t.ldc.gateOpen.comfort ∧
          GateJudged live.floorLeisure soc s.ldc.gateOpen.leisure t.ldc.gateOpen.leisure) ∧
        (s.mastersOnly → RecordsJudged s t)) ∧
      (∀ n, i = .dimCap n → t.chg = s.chg ∧ t.ldc.inputs = s.ldc.inputs ∧ (s.mastersOnly → RecordsJudged s t)) ∧
      (∀ a, i = .travel a → (s.dlu.lock = .free ∨ (s.axis a).runsSource .lock = true ∨ (s.axis a).stowed = false) →
        let r := s.axis a
        let travel := live.travel a
        let under := fun g : Segment => if (g.toEnd = true ∧ g.dir = .outward) ∨ (g.toEnd = false ∧ travel ≤ g.target)
          then (⟨.outward, travel, true⟩ : Segment) else g
        (taken = st.travel a → t.mot = s.mot) ∧
        (taken ≠ st.travel a → t.mot = (s.setAxis a { r with
          known := false, position := min r.position (travel + 32)
          plan := r.plan.map (fun p => { p with first := under p.first, second := p.second.map under }) }).mot) ∧
        t.chg = s.chg ∧ t.ldc = s.ldc ∧ t.out = s.out ∧ t.dlu = s.dlu ∧ t.cwc = s.cwc) ∧
      (i = .dumpThreshold →
        let dumps := (s.cwc.dump = .closed ∨ s.cwc.dump = .closing) ∧ (∀ temp, s.cwc.temp.value = some temp → temp ≤ taken) ∧
          s.granted outPad = false
        (¬ dumps → alone t) ∧
        (dumps → t.cwc.dump = .dumped ∧ t.ldc.dumpedHold = true ∧ t.load outDump = none ∧
          ∀ p, Queued p ⟨.frostDump, 1, BitVec.ofInt 16 (s.cwc.temp.value.getD (-32768)), s.noticeClock⟩ s t)) ∧
      (i = .freshLow →
        (s.cwc.fresh.level = none ∨ s.cwc.fresh.fault = true → alone t) ∧
        ∀ l : Nat, s.cwc.fresh.level = some l → s.cwc.fresh.fault = false →
          (taken ≤ l → l < taken + 3 → alone t) ∧
          (taken + 3 ≤ l → t.ldc.dryRunHold = false ∧ t.cwc.freshLowArmed = true) ∧
          (l < taken → t.ldc.dryRunHold = true ∧ t.cwc.freshLowArmed = false ∧
            (s.cwc.freshLowArmed = true → ∀ p, Queued p ⟨.tankLow, 0, BitVec.ofNat 16 l, s.noticeClock⟩ s t)))) ∧
  (∀ (tag : Byte) (id : Nat) (n : Fin 14) (k : Tier) (s : State), SettingId.ofNat id = some (.tier n) → s.Settled → s.isReady = true →
    s.panel.answer = none →
    let u := { s with sto := { s.sto with live := { s.sto.live with tier := s.sto.live.tier.set n k } } }
    let answered := fun t : State => t.answering .panel tag ⟨.ok, settingRecord u (byteOf id) (.tier n)⟩
    let ends := n = outHeat ∧ s.sto.live.tier[n] ≠ k ∧ s.cwc.effMode = .fallback ∧ tierCondition s.ldc k = .isOpen ∧
      (s.cwc.setMode = .eco ∨ s.cwc.setMode = .comfort)
    (¬ ends → exec (.putSetting ⟨.panel, tag, [byteOf id, byteOf k.code]⟩) s = .next (answered u)) ∧
    (ends → s.load outHeat = none → exec (.putSetting ⟨.panel, tag, [byteOf id, byteOf k.code]⟩) s =
      .next (answered { u with cwc := { s.cwc with effMode := s.cwc.setMode } })) ∧
    (∀ b : Byte, 3 ≤ b.toNat → exec (.putSetting ⟨.panel, tag, [byteOf id, b]⟩) s = .next (s.answering .panel tag ⟨.badTarget, []⟩))) ∧
  (∀ (tag : Byte) (on : Bool) (s : State), s.Settled → s.isReady = true → s.panel.answer = none →
    let value : Byte := if on then 1 else 0
    let u := { s with
      sto := { s.sto with live := { s.sto.live with ocvEnable := on } }
      chg := { s.chg with rest := if s.sto.live.ocvEnable = on then s.chg.rest else if on = false then Rest.idle
        else if s.chg.rest = Rest.idle then Rest.timing 0 else s.chg.rest } }
    let w := { s with sto := { s.sto with live := { s.sto.live with autoStep := on } } }
    exec (.putSetting ⟨.panel, tag, [5, value]⟩) s = .next (u.answering .panel tag ⟨.ok, settingRecord u 5 .ocvEnable⟩) ∧
    exec (.putSetting ⟨.panel, tag, [85, value]⟩) s = .next (w.answering .panel tag ⟨.ok, settingRecord w 85 .autoStep⟩) ∧
    (∀ b : Byte, 2 ≤ b.toNat → exec (.putSetting ⟨.panel, tag, [5, b]⟩) s = .next (s.answering .panel tag ⟨.badTarget, []⟩) ∧
      exec (.putSetting ⟨.panel, tag, [85, b]⟩) s = .next (s.answering .panel tag ⟨.badTarget, []⟩))) ∧
  (∀ (tag : Byte) (l : List Nat) (s : State), s.Settled → s.isReady = true → s.panel.answer = none → l.length = 5 → (∀ k ∈ l, k < 65536) →
    let valid := (∀ k ∈ l, 64 ≤ k ∧ k ≤ 256) ∧ l.Pairwise (· ≤ ·)
    (¬ valid → exec (.putSetting ⟨.panel, tag, 4 :: l.flatMap (fun k => le2 k)⟩) s = .next (s.answering .panel tag ⟨.badTable, []⟩)) ∧
    (valid → ∃ t, exec (.putSetting ⟨.panel, tag, 4 :: l.flatMap (fun k => le2 k)⟩) s = .next t ∧
      t.sto = { s.sto with live := { s.sto.live with factors := l } } ∧ t.chg.content = s.chg.content ∧ t.chg.synced = s.chg.synced ∧
      t.chg.soc = (if s.chg.accountSet then min 1000 (t.chg.content * 1000 / t.usable) else s.chg.soc) ∧ SocHandedOn s t ∧
      t.panel.answer = some (answerFrame tag ⟨.ok, settingRecord t 4 .factors⟩) ∧ t.pending = s.pending)) ∧
  ∀ (tag : Byte) (l : List (Nat × Nat)) (s : State), s.Settled → s.isReady = true → s.panel.answer = none →
    let taken := fun (id : Byte) (i : SettingId) (valid : Prop) (body : List Byte) =>
      let u := { s with sto := { s.sto with live := s.sto.live.put i (.pointTable l) } }
      (valid → exec (.putSetting ⟨.panel, tag, id :: body⟩) s = .next (u.answering .panel tag ⟨.ok, settingRecord u id i⟩)) ∧
      (¬ valid → exec (.putSetting ⟨.panel, tag, id :: body⟩) s = .next (s.answering .panel tag ⟨.badTable, []⟩))
    let firsts := l.map (·.1)
    let ocv := (∀ q ∈ l, q.1 ≤ 20475 ∧ q.2 ≤ 1000) ∧ firsts.Pairwise (· < ·) ∧ (l.map (·.2)).Pairwise (· < ·)
    let tank := (∀ q ∈ l, q.1 ≤ 4095 ∧ q.2 ≤ 100) ∧ (firsts.Pairwise (· < ·) ∨ firsts.Pairwise (· > ·)) ∧ (l.map (·.2)).Pairwise (· ≤ ·)
    (l.length = 8 → (∀ q ∈ l, q.1 < 65536 ∧ q.2 < 65536) → taken 6 .ocvTable ocv (l.flatMap (fun q => le2 q.1 ++ le2 q.2))) ∧
    (l.length = 6 → (∀ q ∈ l, q.1 < 65536 ∧ q.2 < 256) →
      taken 99 (.tankTable .fresh) tank (l.flatMap (fun q => le2 q.1 ++ [byteOf q.2])) ∧
      taken 100 (.tankTable .grey) tank (l.flatMap (fun q => le2 q.1 ++ [byteOf q.2])))

/-! ## Reset and the checks -/

/-- The state after reset satisfies the three invariants. -/
def Obligations.ResetSatisfiesTheInvariants : Prop :=
  State.reset.QueuesBounded ∧ State.reset.InBudget ∧ State.reset.LockSafe ∧ State.reset.Settled

/-- The CRC-8 of covered bytes followed by their CRC is 0, and one changed byte always changes the CRC-8 and the CRC-16; the examples of R180 and
R181 hold: 0xF4 and 0x29B1 over the digits 1 to 9, and the frame C3 00 02 05 31. -/
def Obligations.ChecksFindAnyChangedByte : Prop :=
  (∀ l : List Byte, crc8 (l ++ [crc8 l]) = 0) ∧
  (∀ (l r : List Byte) (b c : Byte), b ≠ c → crc8 (l ++ b :: r) ≠ crc8 (l ++ c :: r) ∧ crc16 (l ++ b :: r) ≠ crc16 (l ++ c :: r)) ∧
  crc8 [0x31, 0x32, 0x33, 0x34, 0x35, 0x36, 0x37, 0x38, 0x39] = 0xF4 ∧
  crc16 [0x31, 0x32, 0x33, 0x34, 0x35, 0x36, 0x37, 0x38, 0x39] = 0x29B1 ∧
  requestFrame 2 5 [] = [0xC3, 0x00, 0x02, 0x05, 0x31]
end

