-- ==== Sys2Proof/Laws/State.lean ====
section
/-! SUPPORT. What each update of the state leaves as it was, one lemma per field per update, and what it sets. -/

namespace Sys2Proof.Machine

variable (s : State)

/-! ## setPort -/

@[simp] theorem setPort_scv (p : Port) (q : PortState) : (s.setPort p q).scv = s.scv := by cases p <;> rfl
@[simp] theorem setPort_chg (p : Port) (q : PortState) : (s.setPort p q).chg = s.chg := by cases p <;> rfl
@[simp] theorem setPort_ldc (p : Port) (q : PortState) : (s.setPort p q).ldc = s.ldc := by cases p <;> rfl
@[simp] theorem setPort_out (p : Port) (q : PortState) : (s.setPort p q).out = s.out := by cases p <;> rfl
@[simp] theorem setPort_mot (p : Port) (q : PortState) : (s.setPort p q).mot = s.mot := by cases p <;> rfl
@[simp] theorem setPort_dlu (p : Port) (q : PortState) : (s.setPort p q).dlu = s.dlu := by cases p <;> rfl
@[simp] theorem setPort_cwc (p : Port) (q : PortState) : (s.setPort p q).cwc = s.cwc := by cases p <;> rfl
@[simp] theorem setPort_sto (p : Port) (q : PortState) : (s.setPort p q).sto = s.sto := by cases p <;> rfl
@[simp] theorem setPort_noticeClock (p : Port) (q : PortState) : (s.setPort p q).noticeClock = s.noticeClock := by cases p <;> rfl
@[simp] theorem setPort_calls (p : Port) (q : PortState) : (s.setPort p q).calls = s.calls := by cases p <;> rfl
@[simp] theorem setPort_freeIndex (p : Port) (q : PortState) : (s.setPort p q).freeIndex = s.freeIndex := by cases p <;> rfl
@[simp] theorem setPort_pending (p : Port) (q : PortState) : (s.setPort p q).pending = s.pending := by cases p <;> rfl

@[simp] theorem setPort_port (p : Port) (q : PortState) : (s.setPort p q).port p = q := by cases p <;> rfl

theorem setPort_port_of_ne {p r : Port} (q : PortState) (h : r ≠ p) : (s.setPort p q).port r = s.port r := by
  cases p <;> cases r <;> first | rfl | exact absurd rfl h

@[simp] theorem setPort_axis (p : Port) (q : PortState) (a : Axis) : (s.setPort p q).axis a = s.axis a := by cases p <;> cases a <;> rfl
@[simp] theorem setPort_bridge (p : Port) (q : PortState) (a : Axis) : (s.setPort p q).bridge a = s.bridge a := by
  cases p <;> cases a <;> rfl
@[simp] theorem setPort_load (p : Port) (q : PortState) (n : Fin 14) : (s.setPort p q).load n = s.load n := by cases p <;> rfl

@[simp] theorem setPort_setPort (p : Port) (q r : PortState) : (s.setPort p q).setPort p r = s.setPort p r := by cases p <;> rfl

@[simp] theorem setPort_self (p : Port) : s.setPort p (s.port p) = s := by cases p <;> rfl

/-! ## setAxis -/

@[simp] theorem setAxis_scv (a : Axis) (r : AxisRec) : (s.setAxis a r).scv = s.scv := by cases a <;> rfl
@[simp] theorem setAxis_chg (a : Axis) (r : AxisRec) : (s.setAxis a r).chg = s.chg := by cases a <;> rfl
@[simp] theorem setAxis_ldc (a : Axis) (r : AxisRec) : (s.setAxis a r).ldc = s.ldc := by cases a <;> rfl
@[simp] theorem setAxis_out (a : Axis) (r : AxisRec) : (s.setAxis a r).out = s.out := by cases a <;> rfl
@[simp] theorem setAxis_dlu (a : Axis) (r : AxisRec) : (s.setAxis a r).dlu = s.dlu := by cases a <;> rfl
@[simp] theorem setAxis_cwc (a : Axis) (r : AxisRec) : (s.setAxis a r).cwc = s.cwc := by cases a <;> rfl
@[simp] theorem setAxis_sto (a : Axis) (r : AxisRec) : (s.setAxis a r).sto = s.sto := by cases a <;> rfl
@[simp] theorem setAxis_noticeClock (a : Axis) (r : AxisRec) : (s.setAxis a r).noticeClock = s.noticeClock := by cases a <;> rfl
@[simp] theorem setAxis_calls (a : Axis) (r : AxisRec) : (s.setAxis a r).calls = s.calls := by cases a <;> rfl
@[simp] theorem setAxis_freeIndex (a : Axis) (r : AxisRec) : (s.setAxis a r).freeIndex = s.freeIndex := by cases a <;> rfl
@[simp] theorem setAxis_pending (a : Axis) (r : AxisRec) : (s.setAxis a r).pending = s.pending := by cases a <;> rfl
@[simp] theorem setAxis_sense (a : Axis) (r : AxisRec) : (s.setAxis a r).mot.sense = s.mot.sense := by cases a <;> rfl
@[simp] theorem setAxis_stopn (a : Axis) (r : AxisRec) : (s.setAxis a r).mot.stopn = s.mot.stopn := by cases a <;> rfl
@[simp] theorem setAxis_entryOpen (a : Axis) (r : AxisRec) : (s.setAxis a r).mot.entryOpen = s.mot.entryOpen := by cases a <;> rfl
@[simp] theorem setAxis_windCount (a : Axis) (r : AxisRec) : (s.setAxis a r).mot.windCount = s.mot.windCount := by cases a <;> rfl
@[simp] theorem setAxis_prevAbove (a : Axis) (r : AxisRec) : (s.setAxis a r).mot.prevAbove = s.mot.prevAbove := by cases a <;> rfl
@[simp] theorem setAxis_windHold (a : Axis) (r : AxisRec) : (s.setAxis a r).mot.windHold = s.mot.windHold := by cases a <;> rfl
@[simp] theorem setAxis_calmTimer (a : Axis) (r : AxisRec) : (s.setAxis a r).mot.calmTimer = s.mot.calmTimer := by cases a <;> rfl
@[simp] theorem setAxis_reports (a : Axis) (r : AxisRec) : (s.setAxis a r).mot.reports = s.mot.reports := by cases a <;> rfl

@[simp] theorem setAxis_axis (a : Axis) (r : AxisRec) : (s.setAxis a r).axis a = r := by cases a <;> rfl

theorem setAxis_axis_of_ne {a b : Axis} (r : AxisRec) (h : b ≠ a) : (s.setAxis a r).axis b = s.axis b := by
  cases a <;> cases b <;> first | rfl | exact absurd rfl h

@[simp] theorem setAxis_bridge (a b : Axis) (r : AxisRec) : (s.setAxis a r).bridge b = s.bridge b := by cases a <;> cases b <;> rfl
@[simp] theorem setAxis_port (a : Axis) (p : Port) (r : AxisRec) : (s.setAxis a r).port p = s.port p := by cases a <;> cases p <;> rfl
@[simp] theorem setAxis_load (a : Axis) (n : Fin 14) (r : AxisRec) : (s.setAxis a r).load n = s.load n := by cases a <;> rfl
@[simp] theorem setAxis_setAxis (a : Axis) (q r : AxisRec) : (s.setAxis a q).setAxis a r = s.setAxis a r := by cases a <;> rfl

@[simp] theorem setAxis_self (a : Axis) : s.setAxis a (s.axis a) = s := by cases a <;> rfl

@[simp] theorem mapAxis_eq (a : Axis) (f : AxisRec → AxisRec) : s.mapAxis a f = s.setAxis a (f (s.axis a)) := rfl

/-! ## setBridge -/

@[simp] theorem setBridge_scv (a : Axis) (b : Bridge) : (s.setBridge a b).scv = s.scv := by cases a <;> rfl
@[simp] theorem setBridge_chg (a : Axis) (b : Bridge) : (s.setBridge a b).chg = s.chg := by cases a <;> rfl
@[simp] theorem setBridge_ldc (a : Axis) (b : Bridge) : (s.setBridge a b).ldc = s.ldc := by cases a <;> rfl
@[simp] theorem setBridge_mot (a : Axis) (b : Bridge) : (s.setBridge a b).mot = s.mot := by cases a <;> rfl
@[simp] theorem setBridge_dlu (a : Axis) (b : Bridge) : (s.setBridge a b).dlu = s.dlu := by cases a <;> rfl
@[simp] theorem setBridge_cwc (a : Axis) (b : Bridge) : (s.setBridge a b).cwc = s.cwc := by cases a <;> rfl
@[simp] theorem setBridge_sto (a : Axis) (b : Bridge) : (s.setBridge a b).sto = s.sto := by cases a <;> rfl
@[simp] theorem setBridge_noticeClock (a : Axis) (b : Bridge) : (s.setBridge a b).noticeClock = s.noticeClock := by cases a <;> rfl
@[simp] theorem setBridge_calls (a : Axis) (b : Bridge) : (s.setBridge a b).calls = s.calls := by cases a <;> rfl
@[simp] theorem setBridge_freeIndex (a : Axis) (b : Bridge) : (s.setBridge a b).freeIndex = s.freeIndex := by cases a <;> rfl
@[simp] theorem setBridge_pending (a : Axis) (b : Bridge) : (s.setBridge a b).pending = s.pending := by cases a <;> rfl
@[simp] theorem setBridge_panel (a : Axis) (b : Bridge) : (s.setBridge a b).panel = s.panel := by cases a <;> rfl
@[simp] theorem setBridge_chassis (a : Axis) (b : Bridge) : (s.setBridge a b).chassis = s.chassis := by cases a <;> rfl
@[simp] theorem setBridge_gateway (a : Axis) (b : Bridge) : (s.setBridge a b).gateway = s.gateway := by cases a <;> rfl
@[simp] theorem setBridge_timebase (a : Axis) (b : Bridge) : (s.setBridge a b).out.timebase = s.out.timebase := by cases a <;> rfl
@[simp] theorem setBridge_target (a : Axis) (b : Bridge) : (s.setBridge a b).out.target = s.out.target := by cases a <;> rfl
@[simp] theorem setBridge_level (a : Axis) (b : Bridge) : (s.setBridge a b).out.level = s.out.level := by cases a <;> rfl
@[simp] theorem setBridge_compare (a : Axis) (b : Bridge) : (s.setBridge a b).out.compare = s.out.compare := by cases a <;> rfl
@[simp] theorem setBridge_waiting (a : Axis) (b : Bridge) : (s.setBridge a b).out.waiting = s.out.waiting := by cases a <;> rfl

@[simp] theorem setBridge_bridge (a : Axis) (b : Bridge) : (s.setBridge a b).bridge a = b := by cases a <;> rfl

theorem setBridge_bridge_of_ne {a c : Axis} (b : Bridge) (h : c ≠ a) : (s.setBridge a b).bridge c = s.bridge c := by
  cases a <;> cases c <;> first | rfl | exact absurd rfl h

@[simp] theorem setBridge_axis (a c : Axis) (b : Bridge) : (s.setBridge a b).axis c = s.axis c := by cases a <;> cases c <;> rfl
@[simp] theorem setBridge_port (a : Axis) (p : Port) (b : Bridge) : (s.setBridge a b).port p = s.port p := by cases a <;> cases p <;> rfl
@[simp] theorem setBridge_load (a : Axis) (n : Fin 14) (b : Bridge) : (s.setBridge a b).load n = s.load n := by cases a <;> rfl

/-! ## setLoad and setLive -/

@[simp] theorem setLoad_scv (n : Fin 14) (l : Option Load) : (s.setLoad n l).scv = s.scv := rfl
@[simp] theorem setLoad_chg (n : Fin 14) (l : Option Load) : (s.setLoad n l).chg = s.chg := rfl
@[simp] theorem setLoad_out (n : Fin 14) (l : Option Load) : (s.setLoad n l).out = s.out := rfl
@[simp] theorem setLoad_mot (n : Fin 14) (l : Option Load) : (s.setLoad n l).mot = s.mot := rfl
@[simp] theorem setLoad_dlu (n : Fin 14) (l : Option Load) : (s.setLoad n l).dlu = s.dlu := rfl
@[simp] theorem setLoad_cwc (n : Fin 14) (l : Option Load) : (s.setLoad n l).cwc = s.cwc := rfl
@[simp] theorem setLoad_sto (n : Fin 14) (l : Option Load) : (s.setLoad n l).sto = s.sto := rfl
@[simp] theorem setLoad_noticeClock (n : Fin 14) (l : Option Load) : (s.setLoad n l).noticeClock = s.noticeClock := rfl
@[simp] theorem setLoad_calls (n : Fin 14) (l : Option Load) : (s.setLoad n l).calls = s.calls := rfl
@[simp] theorem setLoad_freeIndex (n : Fin 14) (l : Option Load) : (s.setLoad n l).freeIndex = s.freeIndex := rfl
@[simp] theorem setLoad_pending (n : Fin 14) (l : Option Load) : (s.setLoad n l).pending = s.pending := rfl
@[simp] theorem setLoad_stampCounter (n : Fin 14) (l : Option Load) : (s.setLoad n l).ldc.stampCounter = s.ldc.stampCounter := rfl
@[simp] theorem setLoad_grantCounter (n : Fin 14) (l : Option Load) : (s.setLoad n l).ldc.grantCounter = s.ldc.grantCounter := rfl
@[simp] theorem setLoad_gateOpen (n : Fin 14) (l : Option Load) : (s.setLoad n l).ldc.gateOpen = s.ldc.gateOpen := rfl
@[simp] theorem setLoad_supply (n : Fin 14) (l : Option Load) : (s.setLoad n l).ldc.supply = s.ldc.supply := rfl
@[simp] theorem setLoad_engine (n : Fin 14) (l : Option Load) : (s.setLoad n l).ldc.engine = s.ldc.engine := rfl
@[simp] theorem setLoad_lvd (n : Fin 14) (l : Option Load) : (s.setLoad n l).ldc.lvd = s.ldc.lvd := rfl
@[simp] theorem setLoad_critical (n : Fin 14) (l : Option Load) : (s.setLoad n l).ldc.critical = s.ldc.critical := rfl
@[simp] theorem setLoad_soc (n : Fin 14) (l : Option Load) : (s.setLoad n l).ldc.soc = s.ldc.soc := rfl
@[simp] theorem setLoad_budget (n : Fin 14) (l : Option Load) : (s.setLoad n l).ldc.budget = s.ldc.budget := rfl
@[simp] theorem setLoad_dryRunHold (n : Fin 14) (l : Option Load) : (s.setLoad n l).ldc.dryRunHold = s.ldc.dryRunHold := rfl
@[simp] theorem setLoad_dumpedHold (n : Fin 14) (l : Option Load) : (s.setLoad n l).ldc.dumpedHold = s.ldc.dumpedHold := rfl
@[simp] theorem setLoad_scenes (n : Fin 14) (l : Option Load) : (s.setLoad n l).ldc.scenes = s.ldc.scenes := rfl
@[simp] theorem setLoad_axis (n : Fin 14) (l : Option Load) (a : Axis) : (s.setLoad n l).axis a = s.axis a := rfl
@[simp] theorem setLoad_bridge (n : Fin 14) (l : Option Load) (a : Axis) : (s.setLoad n l).bridge a = s.bridge a := rfl
@[simp] theorem setLoad_port (n : Fin 14) (l : Option Load) (p : Port) : (s.setLoad n l).port p = s.port p := rfl

@[simp] theorem setLoad_load (n : Fin 14) (l : Option Load) : (s.setLoad n l).load n = l := by
  simp [State.load, State.setLoad]

theorem setLoad_load_of_ne {n m : Fin 14} (l : Option Load) (h : m ≠ n) : (s.setLoad n l).load m = s.load m := by
  have : n.val ≠ m.val := fun e => h (Fin.ext e.symm)
  simp [State.load, State.setLoad, Vector.getElem_set_ne, this]

@[simp] theorem setLive_scv (st : Settings) : (s.setLive st).scv = s.scv := rfl
@[simp] theorem setLive_chg (st : Settings) : (s.setLive st).chg = s.chg := rfl
@[simp] theorem setLive_ldc (st : Settings) : (s.setLive st).ldc = s.ldc := rfl
@[simp] theorem setLive_out (st : Settings) : (s.setLive st).out = s.out := rfl
@[simp] theorem setLive_mot (st : Settings) : (s.setLive st).mot = s.mot := rfl
@[simp] theorem setLive_dlu (st : Settings) : (s.setLive st).dlu = s.dlu := rfl
@[simp] theorem setLive_cwc (st : Settings) : (s.setLive st).cwc = s.cwc := rfl
@[simp] theorem setLive_noticeClock (st : Settings) : (s.setLive st).noticeClock = s.noticeClock := rfl
@[simp] theorem setLive_calls (st : Settings) : (s.setLive st).calls = s.calls := rfl
@[simp] theorem setLive_freeIndex (st : Settings) : (s.setLive st).freeIndex = s.freeIndex := rfl
@[simp] theorem setLive_pending (st : Settings) : (s.setLive st).pending = s.pending := rfl
@[simp] theorem setLive_live (st : Settings) : (s.setLive st).sto.live = st := rfl

/-! ## Ports: receive state and answer -/

@[simp] theorem setReceive_scv (p : Port) (r : Receive) : (setReceive p r s).scv = s.scv := setPort_scv s p _
@[simp] theorem setReceive_chg (p : Port) (r : Receive) : (setReceive p r s).chg = s.chg := setPort_chg s p _
@[simp] theorem setReceive_ldc (p : Port) (r : Receive) : (setReceive p r s).ldc = s.ldc := setPort_ldc s p _
@[simp] theorem setReceive_out (p : Port) (r : Receive) : (setReceive p r s).out = s.out := setPort_out s p _
@[simp] theorem setReceive_mot (p : Port) (r : Receive) : (setReceive p r s).mot = s.mot := setPort_mot s p _
@[simp] theorem setReceive_dlu (p : Port) (r : Receive) : (setReceive p r s).dlu = s.dlu := setPort_dlu s p _
@[simp] theorem setReceive_cwc (p : Port) (r : Receive) : (setReceive p r s).cwc = s.cwc := setPort_cwc s p _
@[simp] theorem setReceive_sto (p : Port) (r : Receive) : (setReceive p r s).sto = s.sto := setPort_sto s p _
@[simp] theorem setReceive_noticeClock (p : Port) (r : Receive) : (setReceive p r s).noticeClock = s.noticeClock := setPort_noticeClock s p _
@[simp] theorem setReceive_calls (p : Port) (r : Receive) : (setReceive p r s).calls = s.calls := setPort_calls s p _
@[simp] theorem setReceive_freeIndex (p : Port) (r : Receive) : (setReceive p r s).freeIndex = s.freeIndex := setPort_freeIndex s p _
@[simp] theorem setReceive_pending (p : Port) (r : Receive) : (setReceive p r s).pending = s.pending := setPort_pending s p _
@[simp] theorem setAnswer_scv (p : Port) (x : Option (List Byte)) : (setAnswer p x s).scv = s.scv := setPort_scv s p _
@[simp] theorem setAnswer_chg (p : Port) (x : Option (List Byte)) : (setAnswer p x s).chg = s.chg := setPort_chg s p _
@[simp] theorem setAnswer_ldc (p : Port) (x : Option (List Byte)) : (setAnswer p x s).ldc = s.ldc := setPort_ldc s p _
@[simp] theorem setAnswer_out (p : Port) (x : Option (List Byte)) : (setAnswer p x s).out = s.out := setPort_out s p _
@[simp] theorem setAnswer_mot (p : Port) (x : Option (List Byte)) : (setAnswer p x s).mot = s.mot := setPort_mot s p _
@[simp] theorem setAnswer_dlu (p : Port) (x : Option (List Byte)) : (setAnswer p x s).dlu = s.dlu := setPort_dlu s p _
@[simp] theorem setAnswer_cwc (p : Port) (x : Option (List Byte)) : (setAnswer p x s).cwc = s.cwc := setPort_cwc s p _
@[simp] theorem setAnswer_sto (p : Port) (x : Option (List Byte)) : (setAnswer p x s).sto = s.sto := setPort_sto s p _
@[simp] theorem setAnswer_noticeClock (p : Port) (x : Option (List Byte)) : (setAnswer p x s).noticeClock = s.noticeClock := setPort_noticeClock s p _
@[simp] theorem setAnswer_calls (p : Port) (x : Option (List Byte)) : (setAnswer p x s).calls = s.calls := setPort_calls s p _
@[simp] theorem setAnswer_freeIndex (p : Port) (x : Option (List Byte)) : (setAnswer p x s).freeIndex = s.freeIndex := setPort_freeIndex s p _
@[simp] theorem setAnswer_pending (p : Port) (x : Option (List Byte)) : (setAnswer p x s).pending = s.pending := setPort_pending s p _

@[simp] theorem setReceive_port (p : Port) (r : Receive) : (setReceive p r s).port p = { s.port p with receive := r } := setPort_port s p _

@[simp] theorem setAnswer_port (p : Port) (x : Option (List Byte)) : (setAnswer p x s).port p = { s.port p with answer := x } :=
  setPort_port s p _

theorem setReceive_port_of_ne {p q : Port} (r : Receive) (h : q ≠ p) : (setReceive p r s).port q = s.port q := setPort_port_of_ne s _ h

theorem setAnswer_port_of_ne {p q : Port} (x : Option (List Byte)) (h : q ≠ p) : (setAnswer p x s).port q = s.port q :=
  setPort_port_of_ne s _ h

end Sys2Proof.Machine
end

