-- ==== Sys2Proof/Laws/Drive.lean ====
section
/-! SUPPORT. What a raised notice does, and what each operation of OUT can do (R82 to R91, R166, R167). -/

namespace Sys2Proof.Machine

variable (s : State)

/-! ## Notices -/

@[simp] theorem raise_nil (k : NoticeKind) (n : Nat) (v : Int) : raise k n v [] s = s := rfl

theorem foldl_deliver_noticeClock (x : Notice) (ps : List Port) : (ps.foldl (State.deliver x) s).noticeClock = s.noticeClock := by
  induction ps generalizing s with
  | nil => rfl
  | cons p ps ih => simp [ih, State.deliver]

@[simp] theorem raise_scv (k : NoticeKind) (n : Nat) (v : Int) (ps : List Port) : (raise k n v ps s).scv = s.scv := by
  unfold raise
  generalize Notice.mk k _ _ _ = x
  induction ps generalizing s with
  | nil => rfl
  | cons p ps ih => simp [ih, State.deliver]

@[simp] theorem raise_chg (k : NoticeKind) (n : Nat) (v : Int) (ps : List Port) : (raise k n v ps s).chg = s.chg := by
  unfold raise
  generalize Notice.mk k _ _ _ = x
  induction ps generalizing s with
  | nil => rfl
  | cons p ps ih => simp [ih, State.deliver]

@[simp] theorem raise_ldc (k : NoticeKind) (n : Nat) (v : Int) (ps : List Port) : (raise k n v ps s).ldc = s.ldc := by
  unfold raise
  generalize Notice.mk k _ _ _ = x
  induction ps generalizing s with
  | nil => rfl
  | cons p ps ih => simp [ih, State.deliver]

@[simp] theorem raise_out (k : NoticeKind) (n : Nat) (v : Int) (ps : List Port) : (raise k n v ps s).out = s.out := by
  unfold raise
  generalize Notice.mk k _ _ _ = x
  induction ps generalizing s with
  | nil => rfl
  | cons p ps ih => simp [ih, State.deliver]

@[simp] theorem raise_mot (k : NoticeKind) (n : Nat) (v : Int) (ps : List Port) : (raise k n v ps s).mot = s.mot := by
  unfold raise
  generalize Notice.mk k _ _ _ = x
  induction ps generalizing s with
  | nil => rfl
  | cons p ps ih => simp [ih, State.deliver]

@[simp] theorem raise_dlu (k : NoticeKind) (n : Nat) (v : Int) (ps : List Port) : (raise k n v ps s).dlu = s.dlu := by
  unfold raise
  generalize Notice.mk k _ _ _ = x
  induction ps generalizing s with
  | nil => rfl
  | cons p ps ih => simp [ih, State.deliver]

@[simp] theorem raise_cwc (k : NoticeKind) (n : Nat) (v : Int) (ps : List Port) : (raise k n v ps s).cwc = s.cwc := by
  unfold raise
  generalize Notice.mk k _ _ _ = x
  induction ps generalizing s with
  | nil => rfl
  | cons p ps ih => simp [ih, State.deliver]

@[simp] theorem raise_sto (k : NoticeKind) (n : Nat) (v : Int) (ps : List Port) : (raise k n v ps s).sto = s.sto := by
  unfold raise
  generalize Notice.mk k _ _ _ = x
  induction ps generalizing s with
  | nil => rfl
  | cons p ps ih => simp [ih, State.deliver]

@[simp] theorem raise_noticeClock (k : NoticeKind) (n : Nat) (v : Int) (ps : List Port) :
    (raise k n v ps s).noticeClock = s.noticeClock := foldl_deliver_noticeClock s _ ps

@[simp] theorem raise_calls (k : NoticeKind) (n : Nat) (v : Int) (ps : List Port) : (raise k n v ps s).calls = s.calls := by
  unfold raise
  generalize Notice.mk k _ _ _ = x
  induction ps generalizing s with
  | nil => rfl
  | cons p ps ih => simp [ih, State.deliver]

@[simp] theorem raise_freeIndex (k : NoticeKind) (n : Nat) (v : Int) (ps : List Port) : (raise k n v ps s).freeIndex = s.freeIndex := by
  unfold raise
  generalize Notice.mk k _ _ _ = x
  induction ps generalizing s with
  | nil => rfl
  | cons p ps ih => simp [ih, State.deliver]

@[simp] theorem raise_pending (k : NoticeKind) (n : Nat) (v : Int) (ps : List Port) : (raise k n v ps s).pending = s.pending := by
  unfold raise
  generalize Notice.mk k _ _ _ = x
  induction ps generalizing s with
  | nil => rfl
  | cons p ps ih => simp [ih, State.deliver]

@[simp] theorem raise_axis (k : NoticeKind) (n : Nat) (v : Int) (ps : List Port) (a : Axis) : (raise k n v ps s).axis a = s.axis a := by
  cases a <;> simp [State.axis]

@[simp] theorem raise_bridge (k : NoticeKind) (n : Nat) (v : Int) (ps : List Port) (a : Axis) :
    (raise k n v ps s).bridge a = s.bridge a := by cases a <;> simp [State.bridge]

@[simp] theorem raise_load (k : NoticeKind) (n : Nat) (v : Int) (ps : List Port) (m : Fin 14) : (raise k n v ps s).load m = s.load m := by
  simp [State.load]

/-- A notice for one port joins that port's queue, stamped with the clock as it stands (R166, R167). -/
theorem raise_one_port (k : NoticeKind) (n : Nat) (v : Int) (p q : Port) :
    (raise k n v [q] s).port p = if p = q then (s.port p).push ⟨k, byteOf n, BitVec.ofInt 16 v, s.noticeClock⟩ else s.port p := by
  cases p <;> cases q <;> rfl

/-- A notice for two different ports. -/
theorem raise_two_ports (k : NoticeKind) (n : Nat) (v : Int) (p q r : Port) (h : q ≠ r) :
    (raise k n v [q, r] s).port p =
      if p = q ∨ p = r then (s.port p).push ⟨k, byteOf n, BitVec.ofInt 16 v, s.noticeClock⟩ else s.port p := by
  cases p <;> cases q <;> cases r <;> first | rfl | exact absurd rfl h

/-- A notice for all ports joins each queue. -/
theorem raise_all_ports (k : NoticeKind) (n : Nat) (v : Int) (p : Port) :
    (raise k n v allPorts s).port p = (s.port p).push ⟨k, byteOf n, BitVec.ofInt 16 v, s.noticeClock⟩ := by cases p <;> rfl

theorem PortState.Grown.refl (q : PortState) : q.Grown q := ⟨[], rfl⟩

theorem PortState.Grown.trans {a b c : PortState} : a.Grown b → b.Grown c → a.Grown c := by
  rintro ⟨l, rfl⟩ ⟨m, rfl⟩
  exact ⟨l ++ m, by simp⟩

theorem PortState.Grown.push (q : PortState) (x : Notice) : q.Grown (q.push x) := ⟨[x], rfl⟩

/-- A raised notice only adds to queues. -/
theorem raise_grown (k : NoticeKind) (n : Nat) (v : Int) (ps : List Port) (p : Port) : (s.port p).Grown ((raise k n v ps s).port p) := by
  unfold raise
  generalize Notice.mk k _ _ _ = x
  induction ps generalizing s with
  | nil => exact .refl _
  | cons q ps ih =>
    refine PortState.Grown.trans ?_ (ih _)
    by_cases h : p = q
    · subst h; simpa [State.deliver] using PortState.Grown.push (s.port p) x
    · simpa [State.deliver, setPort_port_of_ne _ _ h] using PortState.Grown.refl _

/-- A queue of eight at most stays one (R167). -/
theorem PortState.Grown.bounded {a b : PortState} (h : a.Grown b) (ha : a.queue.length ≤ 8) : b.queue.length ≤ 8 := by
  obtain ⟨l, rfl⟩ := h
  induction l generalizing a with
  | nil => exact ha
  | cons x l ih =>
    refine ih ?_
    unfold PortState.push
    split
    · simp; omega
    · exact ha

/-- What pushes leave alone. -/
theorem PortState.Grown.kept {a b : PortState} (h : a.Grown b) : b.receive = a.receive ∧ b.answer = a.answer := by
  obtain ⟨l, rfl⟩ := h
  induction l generalizing a with
  | nil => exact ⟨rfl, rfl⟩
  | cons x l ih => rw [List.foldl_cons, (ih (a := a.push x)).1, (ih (a := a.push x)).2]; unfold PortState.push; split <;> exact ⟨rfl, rfl⟩

/-! ## OUT -/

@[simp] theorem setCompare_scv (g : Fin 16) (v : Nat) : (setCompare g v s).scv = s.scv := by unfold setCompare; split <;> rfl
@[simp] theorem setCompare_chg (g : Fin 16) (v : Nat) : (setCompare g v s).chg = s.chg := by unfold setCompare; split <;> rfl
@[simp] theorem setCompare_ldc (g : Fin 16) (v : Nat) : (setCompare g v s).ldc = s.ldc := by unfold setCompare; split <;> rfl
@[simp] theorem setCompare_mot (g : Fin 16) (v : Nat) : (setCompare g v s).mot = s.mot := by unfold setCompare; split <;> rfl
@[simp] theorem setCompare_dlu (g : Fin 16) (v : Nat) : (setCompare g v s).dlu = s.dlu := by unfold setCompare; split <;> rfl
@[simp] theorem setCompare_cwc (g : Fin 16) (v : Nat) : (setCompare g v s).cwc = s.cwc := by unfold setCompare; split <;> rfl
@[simp] theorem setCompare_sto (g : Fin 16) (v : Nat) : (setCompare g v s).sto = s.sto := by unfold setCompare; split <;> rfl
@[simp] theorem setCompare_noticeClock (g : Fin 16) (v : Nat) : (setCompare g v s).noticeClock = s.noticeClock := by unfold setCompare; split <;> rfl
@[simp] theorem setCompare_calls (g : Fin 16) (v : Nat) : (setCompare g v s).calls = s.calls := by unfold setCompare; split <;> rfl
@[simp] theorem setCompare_freeIndex (g : Fin 16) (v : Nat) : (setCompare g v s).freeIndex = s.freeIndex := by unfold setCompare; split <;> rfl
@[simp] theorem setCompare_pending (g : Fin 16) (v : Nat) : (setCompare g v s).pending = s.pending := by unfold setCompare; split <;> rfl
@[simp] theorem setCompare_panel (g : Fin 16) (v : Nat) : (setCompare g v s).panel = s.panel := by unfold setCompare; split <;> rfl
@[simp] theorem setCompare_chassis (g : Fin 16) (v : Nat) : (setCompare g v s).chassis = s.chassis := by unfold setCompare; split <;> rfl
@[simp] theorem setCompare_gateway (g : Fin 16) (v : Nat) : (setCompare g v s).gateway = s.gateway := by unfold setCompare; split <;> rfl
@[simp] theorem setCompare_axis (g : Fin 16) (v : Nat) (c : Axis) : (setCompare g v s).axis c = s.axis c := by cases c <;> simp [State.axis]
@[simp] theorem setCompare_port (g : Fin 16) (v : Nat) (p : Port) : (setCompare g v s).port p = s.port p := by cases p <;> simp [State.port]
@[simp] theorem setCompare_load (g : Fin 16) (v : Nat) (m : Fin 14) : (setCompare g v s).load m = s.load m := by simp [State.load]

@[simp] theorem setLevel_scv (n : Fin 14) (v : Nat) : (setLevel n v s).scv = s.scv := by simp [setLevel]
@[simp] theorem setLevel_chg (n : Fin 14) (v : Nat) : (setLevel n v s).chg = s.chg := by simp [setLevel]
@[simp] theorem setLevel_ldc (n : Fin 14) (v : Nat) : (setLevel n v s).ldc = s.ldc := by simp [setLevel]
@[simp] theorem setLevel_mot (n : Fin 14) (v : Nat) : (setLevel n v s).mot = s.mot := by simp [setLevel]
@[simp] theorem setLevel_dlu (n : Fin 14) (v : Nat) : (setLevel n v s).dlu = s.dlu := by simp [setLevel]
@[simp] theorem setLevel_cwc (n : Fin 14) (v : Nat) : (setLevel n v s).cwc = s.cwc := by simp [setLevel]
@[simp] theorem setLevel_sto (n : Fin 14) (v : Nat) : (setLevel n v s).sto = s.sto := by simp [setLevel]
@[simp] theorem setLevel_noticeClock (n : Fin 14) (v : Nat) : (setLevel n v s).noticeClock = s.noticeClock := by simp [setLevel]
@[simp] theorem setLevel_calls (n : Fin 14) (v : Nat) : (setLevel n v s).calls = s.calls := by simp [setLevel]
@[simp] theorem setLevel_freeIndex (n : Fin 14) (v : Nat) : (setLevel n v s).freeIndex = s.freeIndex := by simp [setLevel]
@[simp] theorem setLevel_pending (n : Fin 14) (v : Nat) : (setLevel n v s).pending = s.pending := by simp [setLevel]
@[simp] theorem setLevel_panel (n : Fin 14) (v : Nat) : (setLevel n v s).panel = s.panel := by simp [setLevel]
@[simp] theorem setLevel_chassis (n : Fin 14) (v : Nat) : (setLevel n v s).chassis = s.chassis := by simp [setLevel]
@[simp] theorem setLevel_gateway (n : Fin 14) (v : Nat) : (setLevel n v s).gateway = s.gateway := by simp [setLevel]
@[simp] theorem setLevel_axis (n : Fin 14) (v : Nat) (c : Axis) : (setLevel n v s).axis c = s.axis c := by cases c <;> simp [State.axis]
@[simp] theorem setLevel_port (n : Fin 14) (v : Nat) (p : Port) : (setLevel n v s).port p = s.port p := by cases p <;> simp [State.port]
@[simp] theorem setLevel_load (n : Fin 14) (v : Nat) (m : Fin 14) : (setLevel n v s).load m = s.load m := by simp [State.load]

@[simp] theorem setTarget_scv (n : Fin 14) (v : Nat) : (setTarget n v s).scv = s.scv := by
  unfold setTarget; dsimp only; split <;> first | rfl | simp
@[simp] theorem setTarget_chg (n : Fin 14) (v : Nat) : (setTarget n v s).chg = s.chg := by
  unfold setTarget; dsimp only; split <;> first | rfl | simp
@[simp] theorem setTarget_ldc (n : Fin 14) (v : Nat) : (setTarget n v s).ldc = s.ldc := by
  unfold setTarget; dsimp only; split <;> first | rfl | simp
@[simp] theorem setTarget_mot (n : Fin 14) (v : Nat) : (setTarget n v s).mot = s.mot := by
  unfold setTarget; dsimp only; split <;> first | rfl | simp
@[simp] theorem setTarget_dlu (n : Fin 14) (v : Nat) : (setTarget n v s).dlu = s.dlu := by
  unfold setTarget; dsimp only; split <;> first | rfl | simp
@[simp] theorem setTarget_cwc (n : Fin 14) (v : Nat) : (setTarget n v s).cwc = s.cwc := by
  unfold setTarget; dsimp only; split <;> first | rfl | simp
@[simp] theorem setTarget_sto (n : Fin 14) (v : Nat) : (setTarget n v s).sto = s.sto := by
  unfold setTarget; dsimp only; split <;> first | rfl | simp
@[simp] theorem setTarget_noticeClock (n : Fin 14) (v : Nat) : (setTarget n v s).noticeClock = s.noticeClock := by
  unfold setTarget; dsimp only; split <;> first | rfl | simp
@[simp] theorem setTarget_calls (n : Fin 14) (v : Nat) : (setTarget n v s).calls = s.calls := by
  unfold setTarget; dsimp only; split <;> first | rfl | simp
@[simp] theorem setTarget_freeIndex (n : Fin 14) (v : Nat) : (setTarget n v s).freeIndex = s.freeIndex := by
  unfold setTarget; dsimp only; split <;> first | rfl | simp
@[simp] theorem setTarget_pending (n : Fin 14) (v : Nat) : (setTarget n v s).pending = s.pending := by
  unfold setTarget; dsimp only; split <;> first | rfl | simp
@[simp] theorem setTarget_panel (n : Fin 14) (v : Nat) : (setTarget n v s).panel = s.panel := by
  unfold setTarget; dsimp only; split <;> first | rfl | simp
@[simp] theorem setTarget_chassis (n : Fin 14) (v : Nat) : (setTarget n v s).chassis = s.chassis := by
  unfold setTarget; dsimp only; split <;> first | rfl | simp
@[simp] theorem setTarget_gateway (n : Fin 14) (v : Nat) : (setTarget n v s).gateway = s.gateway := by
  unfold setTarget; dsimp only; split <;> first | rfl | simp
@[simp] theorem setTarget_axis (n : Fin 14) (v : Nat) (c : Axis) : (setTarget n v s).axis c = s.axis c := by cases c <;> simp [State.axis]
@[simp] theorem setTarget_port (n : Fin 14) (v : Nat) (p : Port) : (setTarget n v s).port p = s.port p := by cases p <;> simp [State.port]
@[simp] theorem setTarget_load (n : Fin 14) (v : Nat) (m : Fin 14) : (setTarget n v s).load m = s.load m := by simp [State.load]

@[simp] theorem enterBridge_scv (a : Axis) (e : BridgeState) : (enterBridge a e s).scv = s.scv := by cases e <;> simp [enterBridge]
@[simp] theorem enterBridge_chg (a : Axis) (e : BridgeState) : (enterBridge a e s).chg = s.chg := by cases e <;> simp [enterBridge]
@[simp] theorem enterBridge_ldc (a : Axis) (e : BridgeState) : (enterBridge a e s).ldc = s.ldc := by cases e <;> simp [enterBridge]
@[simp] theorem enterBridge_mot (a : Axis) (e : BridgeState) : (enterBridge a e s).mot = s.mot := by cases e <;> simp [enterBridge]
@[simp] theorem enterBridge_dlu (a : Axis) (e : BridgeState) : (enterBridge a e s).dlu = s.dlu := by cases e <;> simp [enterBridge]
@[simp] theorem enterBridge_cwc (a : Axis) (e : BridgeState) : (enterBridge a e s).cwc = s.cwc := by cases e <;> simp [enterBridge]
@[simp] theorem enterBridge_sto (a : Axis) (e : BridgeState) : (enterBridge a e s).sto = s.sto := by cases e <;> simp [enterBridge]
@[simp] theorem enterBridge_noticeClock (a : Axis) (e : BridgeState) : (enterBridge a e s).noticeClock = s.noticeClock := by cases e <;> simp [enterBridge]
@[simp] theorem enterBridge_calls (a : Axis) (e : BridgeState) : (enterBridge a e s).calls = s.calls := by cases e <;> simp [enterBridge]
@[simp] theorem enterBridge_freeIndex (a : Axis) (e : BridgeState) : (enterBridge a e s).freeIndex = s.freeIndex := by cases e <;> simp [enterBridge]
@[simp] theorem enterBridge_pending (a : Axis) (e : BridgeState) : (enterBridge a e s).pending = s.pending := by cases e <;> simp [enterBridge]
@[simp] theorem enterBridge_panel (a : Axis) (e : BridgeState) : (enterBridge a e s).panel = s.panel := by cases e <;> simp [enterBridge]
@[simp] theorem enterBridge_chassis (a : Axis) (e : BridgeState) : (enterBridge a e s).chassis = s.chassis := by cases e <;> simp [enterBridge]
@[simp] theorem enterBridge_gateway (a : Axis) (e : BridgeState) : (enterBridge a e s).gateway = s.gateway := by cases e <;> simp [enterBridge]
@[simp] theorem enterBridge_axis (a : Axis) (e : BridgeState) (c : Axis) : (enterBridge a e s).axis c = s.axis c := by cases c <;> simp [State.axis]
@[simp] theorem enterBridge_port (a : Axis) (e : BridgeState) (p : Port) : (enterBridge a e s).port p = s.port p := by cases p <;> simp [State.port]
@[simp] theorem enterBridge_load (a : Axis) (e : BridgeState) (m : Fin 14) : (enterBridge a e s).load m = s.load m := by simp [State.load]

/-- A bridge keeps its effective state, or enters another. -/
theorem applyBridge_cases (a : Axis) : applyBridge a s = s ∨ ∃ e, applyBridge a s = enterBridge a e s := by
  unfold applyBridge
  dsimp only
  generalize (if s.granted (axisRecord a) = true then (s.bridge a).requested else BridgeState.coast) = e
  split
  · exact .inl rfl
  · exact .inr ⟨e, rfl⟩

@[simp] theorem applyBridge_scv (a : Axis) : (applyBridge a s).scv = s.scv := by
  rcases applyBridge_cases s a with h | ⟨e, h⟩ <;> simp [h]
@[simp] theorem applyBridge_chg (a : Axis) : (applyBridge a s).chg = s.chg := by
  rcases applyBridge_cases s a with h | ⟨e, h⟩ <;> simp [h]
@[simp] theorem applyBridge_ldc (a : Axis) : (applyBridge a s).ldc = s.ldc := by
  rcases applyBridge_cases s a with h | ⟨e, h⟩ <;> simp [h]
@[simp] theorem applyBridge_mot (a : Axis) : (applyBridge a s).mot = s.mot := by
  rcases applyBridge_cases s a with h | ⟨e, h⟩ <;> simp [h]
@[simp] theorem applyBridge_dlu (a : Axis) : (applyBridge a s).dlu = s.dlu := by
  rcases applyBridge_cases s a with h | ⟨e, h⟩ <;> simp [h]
@[simp] theorem applyBridge_cwc (a : Axis) : (applyBridge a s).cwc = s.cwc := by
  rcases applyBridge_cases s a with h | ⟨e, h⟩ <;> simp [h]
@[simp] theorem applyBridge_sto (a : Axis) : (applyBridge a s).sto = s.sto := by
  rcases applyBridge_cases s a with h | ⟨e, h⟩ <;> simp [h]
@[simp] theorem applyBridge_noticeClock (a : Axis) : (applyBridge a s).noticeClock = s.noticeClock := by
  rcases applyBridge_cases s a with h | ⟨e, h⟩ <;> simp [h]
@[simp] theorem applyBridge_calls (a : Axis) : (applyBridge a s).calls = s.calls := by
  rcases applyBridge_cases s a with h | ⟨e, h⟩ <;> simp [h]
@[simp] theorem applyBridge_freeIndex (a : Axis) : (applyBridge a s).freeIndex = s.freeIndex := by
  rcases applyBridge_cases s a with h | ⟨e, h⟩ <;> simp [h]
@[simp] theorem applyBridge_pending (a : Axis) : (applyBridge a s).pending = s.pending := by
  rcases applyBridge_cases s a with h | ⟨e, h⟩ <;> simp [h]
@[simp] theorem applyBridge_panel (a : Axis) : (applyBridge a s).panel = s.panel := by
  rcases applyBridge_cases s a with h | ⟨e, h⟩ <;> simp [h]
@[simp] theorem applyBridge_chassis (a : Axis) : (applyBridge a s).chassis = s.chassis := by
  rcases applyBridge_cases s a with h | ⟨e, h⟩ <;> simp [h]
@[simp] theorem applyBridge_gateway (a : Axis) : (applyBridge a s).gateway = s.gateway := by
  rcases applyBridge_cases s a with h | ⟨e, h⟩ <;> simp [h]
@[simp] theorem applyBridge_axis (a : Axis) (c : Axis) : (applyBridge a s).axis c = s.axis c := by cases c <;> simp [State.axis]
@[simp] theorem applyBridge_port (a : Axis) (p : Port) : (applyBridge a s).port p = s.port p := by cases p <;> simp [State.port]
@[simp] theorem applyBridge_load (a : Axis) (m : Fin 14) : (applyBridge a s).load m = s.load m := by simp [State.load]

@[simp] theorem requestBridge_scv (a : Axis) (r : BridgeState) : (requestBridge a r s).scv = s.scv := by simp [requestBridge]
@[simp] theorem requestBridge_chg (a : Axis) (r : BridgeState) : (requestBridge a r s).chg = s.chg := by simp [requestBridge]
@[simp] theorem requestBridge_ldc (a : Axis) (r : BridgeState) : (requestBridge a r s).ldc = s.ldc := by simp [requestBridge]
@[simp] theorem requestBridge_mot (a : Axis) (r : BridgeState) : (requestBridge a r s).mot = s.mot := by simp [requestBridge]
@[simp] theorem requestBridge_dlu (a : Axis) (r : BridgeState) : (requestBridge a r s).dlu = s.dlu := by simp [requestBridge]
@[simp] theorem requestBridge_cwc (a : Axis) (r : BridgeState) : (requestBridge a r s).cwc = s.cwc := by simp [requestBridge]
@[simp] theorem requestBridge_sto (a : Axis) (r : BridgeState) : (requestBridge a r s).sto = s.sto := by simp [requestBridge]
@[simp] theorem requestBridge_noticeClock (a : Axis) (r : BridgeState) : (requestBridge a r s).noticeClock = s.noticeClock := by simp [requestBridge]
@[simp] theorem requestBridge_calls (a : Axis) (r : BridgeState) : (requestBridge a r s).calls = s.calls := by simp [requestBridge]
@[simp] theorem requestBridge_freeIndex (a : Axis) (r : BridgeState) : (requestBridge a r s).freeIndex = s.freeIndex := by simp [requestBridge]
@[simp] theorem requestBridge_pending (a : Axis) (r : BridgeState) : (requestBridge a r s).pending = s.pending := by simp [requestBridge]
@[simp] theorem requestBridge_panel (a : Axis) (r : BridgeState) : (requestBridge a r s).panel = s.panel := by simp [requestBridge]
@[simp] theorem requestBridge_chassis (a : Axis) (r : BridgeState) : (requestBridge a r s).chassis = s.chassis := by simp [requestBridge]
@[simp] theorem requestBridge_gateway (a : Axis) (r : BridgeState) : (requestBridge a r s).gateway = s.gateway := by simp [requestBridge]
@[simp] theorem requestBridge_axis (a : Axis) (r : BridgeState) (c : Axis) : (requestBridge a r s).axis c = s.axis c := by cases c <;> simp [State.axis]
@[simp] theorem requestBridge_port (a : Axis) (r : BridgeState) (p : Port) : (requestBridge a r s).port p = s.port p := by cases p <;> simp [State.port]
@[simp] theorem requestBridge_load (a : Axis) (r : BridgeState) (m : Fin 14) : (requestBridge a r s).load m = s.load m := by simp [State.load]

@[simp] theorem outGrant_scv (n : Fin 14) (v : Nat) : (outGrant n v s).scv = s.scv := by
  unfold outGrant; split <;> first | rfl | simp
@[simp] theorem outGrant_chg (n : Fin 14) (v : Nat) : (outGrant n v s).chg = s.chg := by
  unfold outGrant; split <;> first | rfl | simp
@[simp] theorem outGrant_ldc (n : Fin 14) (v : Nat) : (outGrant n v s).ldc = s.ldc := by
  unfold outGrant; split <;> first | rfl | simp
@[simp] theorem outGrant_mot (n : Fin 14) (v : Nat) : (outGrant n v s).mot = s.mot := by
  unfold outGrant; split <;> first | rfl | simp
@[simp] theorem outGrant_dlu (n : Fin 14) (v : Nat) : (outGrant n v s).dlu = s.dlu := by
  unfold outGrant; split <;> first | rfl | simp
@[simp] theorem outGrant_cwc (n : Fin 14) (v : Nat) : (outGrant n v s).cwc = s.cwc := by
  unfold outGrant; split <;> first | rfl | simp
@[simp] theorem outGrant_sto (n : Fin 14) (v : Nat) : (outGrant n v s).sto = s.sto := by
  unfold outGrant; split <;> first | rfl | simp
@[simp] theorem outGrant_noticeClock (n : Fin 14) (v : Nat) : (outGrant n v s).noticeClock = s.noticeClock := by
  unfold outGrant; split <;> first | rfl | simp
@[simp] theorem outGrant_calls (n : Fin 14) (v : Nat) : (outGrant n v s).calls = s.calls := by
  unfold outGrant; split <;> first | rfl | simp
@[simp] theorem outGrant_freeIndex (n : Fin 14) (v : Nat) : (outGrant n v s).freeIndex = s.freeIndex := by
  unfold outGrant; split <;> first | rfl | simp
@[simp] theorem outGrant_pending (n : Fin 14) (v : Nat) : (outGrant n v s).pending = s.pending := by
  unfold outGrant; split <;> first | rfl | simp
@[simp] theorem outGrant_panel (n : Fin 14) (v : Nat) : (outGrant n v s).panel = s.panel := by
  unfold outGrant; split <;> first | rfl | simp
@[simp] theorem outGrant_chassis (n : Fin 14) (v : Nat) : (outGrant n v s).chassis = s.chassis := by
  unfold outGrant; split <;> first | rfl | simp
@[simp] theorem outGrant_gateway (n : Fin 14) (v : Nat) : (outGrant n v s).gateway = s.gateway := by
  unfold outGrant; split <;> first | rfl | simp
@[simp] theorem outGrant_axis (n : Fin 14) (v : Nat) (c : Axis) : (outGrant n v s).axis c = s.axis c := by cases c <;> simp [State.axis]
@[simp] theorem outGrant_port (n : Fin 14) (v : Nat) (p : Port) : (outGrant n v s).port p = s.port p := by cases p <;> simp [State.port]
@[simp] theorem outGrant_load (n : Fin 14) (v : Nat) (m : Fin 14) : (outGrant n v s).load m = s.load m := by simp [State.load]

@[simp] theorem outChange_scv (n : Fin 14) (v : Nat) : (outChange n v s).scv = s.scv := by
  unfold outChange; split <;> (try split) <;> first | rfl | simp
@[simp] theorem outChange_chg (n : Fin 14) (v : Nat) : (outChange n v s).chg = s.chg := by
  unfold outChange; split <;> (try split) <;> first | rfl | simp
@[simp] theorem outChange_ldc (n : Fin 14) (v : Nat) : (outChange n v s).ldc = s.ldc := by
  unfold outChange; split <;> (try split) <;> first | rfl | simp
@[simp] theorem outChange_mot (n : Fin 14) (v : Nat) : (outChange n v s).mot = s.mot := by
  unfold outChange; split <;> (try split) <;> first | rfl | simp
@[simp] theorem outChange_dlu (n : Fin 14) (v : Nat) : (outChange n v s).dlu = s.dlu := by
  unfold outChange; split <;> (try split) <;> first | rfl | simp
@[simp] theorem outChange_cwc (n : Fin 14) (v : Nat) : (outChange n v s).cwc = s.cwc := by
  unfold outChange; split <;> (try split) <;> first | rfl | simp
@[simp] theorem outChange_sto (n : Fin 14) (v : Nat) : (outChange n v s).sto = s.sto := by
  unfold outChange; split <;> (try split) <;> first | rfl | simp
@[simp] theorem outChange_noticeClock (n : Fin 14) (v : Nat) : (outChange n v s).noticeClock = s.noticeClock := by
  unfold outChange; split <;> (try split) <;> first | rfl | simp
@[simp] theorem outChange_calls (n : Fin 14) (v : Nat) : (outChange n v s).calls = s.calls := by
  unfold outChange; split <;> (try split) <;> first | rfl | simp
@[simp] theorem outChange_freeIndex (n : Fin 14) (v : Nat) : (outChange n v s).freeIndex = s.freeIndex := by
  unfold outChange; split <;> (try split) <;> first | rfl | simp
@[simp] theorem outChange_pending (n : Fin 14) (v : Nat) : (outChange n v s).pending = s.pending := by
  unfold outChange; split <;> (try split) <;> first | rfl | simp
@[simp] theorem outChange_panel (n : Fin 14) (v : Nat) : (outChange n v s).panel = s.panel := by
  unfold outChange; split <;> (try split) <;> first | rfl | simp
@[simp] theorem outChange_chassis (n : Fin 14) (v : Nat) : (outChange n v s).chassis = s.chassis := by
  unfold outChange; split <;> (try split) <;> first | rfl | simp
@[simp] theorem outChange_gateway (n : Fin 14) (v : Nat) : (outChange n v s).gateway = s.gateway := by
  unfold outChange; split <;> (try split) <;> first | rfl | simp
@[simp] theorem outChange_axis (n : Fin 14) (v : Nat) (c : Axis) : (outChange n v s).axis c = s.axis c := by cases c <;> simp [State.axis]
@[simp] theorem outChange_port (n : Fin 14) (v : Nat) (p : Port) : (outChange n v s).port p = s.port p := by cases p <;> simp [State.port]
@[simp] theorem outChange_load (n : Fin 14) (v : Nat) (m : Fin 14) : (outChange n v s).load m = s.load m := by simp [State.load]

@[simp] theorem outLoss_scv (n : Fin 14) : (outLoss n s).scv = s.scv := by
  unfold outLoss; split <;> first | rfl | simp
@[simp] theorem outLoss_chg (n : Fin 14) : (outLoss n s).chg = s.chg := by
  unfold outLoss; split <;> first | rfl | simp
@[simp] theorem outLoss_ldc (n : Fin 14) : (outLoss n s).ldc = s.ldc := by
  unfold outLoss; split <;> first | rfl | simp
@[simp] theorem outLoss_mot (n : Fin 14) : (outLoss n s).mot = s.mot := by
  unfold outLoss; split <;> first | rfl | simp
@[simp] theorem outLoss_dlu (n : Fin 14) : (outLoss n s).dlu = s.dlu := by
  unfold outLoss; split <;> first | rfl | simp
@[simp] theorem outLoss_cwc (n : Fin 14) : (outLoss n s).cwc = s.cwc := by
  unfold outLoss; split <;> first | rfl | simp
@[simp] theorem outLoss_sto (n : Fin 14) : (outLoss n s).sto = s.sto := by
  unfold outLoss; split <;> first | rfl | simp
@[simp] theorem outLoss_noticeClock (n : Fin 14) : (outLoss n s).noticeClock = s.noticeClock := by
  unfold outLoss; split <;> first | rfl | simp
@[simp] theorem outLoss_calls (n : Fin 14) : (outLoss n s).calls = s.calls := by
  unfold outLoss; split <;> first | rfl | simp
@[simp] theorem outLoss_freeIndex (n : Fin 14) : (outLoss n s).freeIndex = s.freeIndex := by
  unfold outLoss; split <;> first | rfl | simp
@[simp] theorem outLoss_pending (n : Fin 14) : (outLoss n s).pending = s.pending := by
  unfold outLoss; split <;> first | rfl | simp
@[simp] theorem outLoss_panel (n : Fin 14) : (outLoss n s).panel = s.panel := by
  unfold outLoss; split <;> first | rfl | simp
@[simp] theorem outLoss_chassis (n : Fin 14) : (outLoss n s).chassis = s.chassis := by
  unfold outLoss; split <;> first | rfl | simp
@[simp] theorem outLoss_gateway (n : Fin 14) : (outLoss n s).gateway = s.gateway := by
  unfold outLoss; split <;> first | rfl | simp
@[simp] theorem outLoss_axis (n : Fin 14) (c : Axis) : (outLoss n s).axis c = s.axis c := by cases c <;> simp [State.axis]
@[simp] theorem outLoss_port (n : Fin 14) (p : Port) : (outLoss n s).port p = s.port p := by cases p <;> simp [State.port]
@[simp] theorem outLoss_load (n : Fin 14) (m : Fin 14) : (outLoss n s).load m = s.load m := by simp [State.load]

/-! ## Gate-drive outputs -/

/-- What `setCompare` does to the compare values in force (R82). -/
theorem setCompare_compare (g h : Fin 16) (v : Nat) :
    (setCompare g v s).out.compare[h.val] = if h = g ∧ v = 0 then 0 else s.out.compare[h.val] := by
  unfold setCompare
  split <;> by_cases hg : h = g
  · subst hg; simp_all
  · have : g.val ≠ h.val := fun e => hg (Fin.ext e.symm)
    simp_all [Vector.getElem_set_ne]
  · subst hg; simp_all
  · simp_all

/-- What `setCompare` does to the compare values that wait (R82). -/
theorem setCompare_waiting (g h : Fin 16) (v : Nat) :
    (setCompare g v s).out.waiting[h.val] = if h = g then (if v = 0 then none else some v) else s.out.waiting[h.val] := by
  unfold setCompare
  split <;> by_cases hg : h = g
  · subst hg; simp_all
  · have : g.val ≠ h.val := fun e => hg (Fin.ext e.symm)
    simp_all [Vector.getElem_set_ne]
  · subst hg; simp_all
  · have : g.val ≠ h.val := fun e => hg (Fin.ext e.symm)
    simp_all [Vector.getElem_set_ne]

@[simp] theorem setCompare_out_target (g : Fin 16) (v : Nat) : (setCompare g v s).out.target = s.out.target := by
  unfold setCompare; split <;> rfl
@[simp] theorem setCompare_out_level (g : Fin 16) (v : Nat) : (setCompare g v s).out.level = s.out.level := by
  unfold setCompare; split <;> rfl
@[simp] theorem setCompare_out_timebase (g : Fin 16) (v : Nat) : (setCompare g v s).out.timebase = s.out.timebase := by
  unfold setCompare; split <;> rfl
@[simp] theorem setCompare_bridge (g : Fin 16) (v : Nat) (a : Axis) : (setCompare g v s).bridge a = s.bridge a := by
  unfold setCompare; cases a <;> split <;> rfl

/-! ## Bridges -/

/-- A bridge that takes an effective state: the state, its duty and soft start; the request stays (R88 to R90). -/
theorem enterBridge_bridge (a : Axis) (e : BridgeState) :
    (enterBridge a e s).bridge a =
      ⟨(s.bridge a).requested, e, if e = .driveOut ∨ e = .driveIn then 96 else 0, decide (e = .driveOut ∨ e = .driveIn)⟩ := by
  cases e <;> simp [enterBridge]

theorem enterBridge_bridge_of_ne {a c : Axis} (e : BridgeState) (h : c ≠ a) : (enterBridge a e s).bridge c = s.bridge c := by
  cases e <;> simp [enterBridge, setBridge_bridge_of_ne _ _ h]

/-- The effective state after `applyBridge` is the one that R88 gives; the request stays. -/
theorem applyBridge_bridge (a : Axis) :
    ((applyBridge a s).bridge a).requested = (s.bridge a).requested ∧
      ((applyBridge a s).bridge a).effective = if s.granted (axisRecord a) then (s.bridge a).requested else .coast := by
  unfold applyBridge
  dsimp only
  generalize (if s.granted (axisRecord a) = true then (s.bridge a).requested else BridgeState.coast) = e
  split
  · exact ⟨rfl, by simp_all⟩
  · simp [enterBridge_bridge]

theorem applyBridge_bridge_of_ne {a c : Axis} (h : c ≠ a) : (applyBridge a s).bridge c = s.bridge c := by
  unfold applyBridge
  dsimp only
  generalize (if s.granted (axisRecord a) = true then (s.bridge a).requested else BridgeState.coast) = e
  split
  · rfl
  · exact enterBridge_bridge_of_ne _ _ h

/-- The requested and the effective state after a request of MOT (R88). -/
theorem requestBridge_bridge (a : Axis) (r : BridgeState) :
    ((requestBridge a r s).bridge a).requested = r ∧
      ((requestBridge a r s).bridge a).effective = if s.granted (axisRecord a) then r else .coast := by
  have h := applyBridge_bridge (s.setBridge a { s.bridge a with requested := r }) a
  have hg : (s.setBridge a { s.bridge a with requested := r }).granted (axisRecord a) = s.granted (axisRecord a) := by
    simp [State.granted]
  rw [hg, setBridge_bridge] at h
  exact h

theorem requestBridge_bridge_of_ne {a c : Axis} (r : BridgeState) (h : c ≠ a) : (requestBridge a r s).bridge c = s.bridge c := by
  simp [requestBridge, applyBridge_bridge_of_ne _ h, setBridge_bridge_of_ne _ _ h]


end Sys2Proof.Machine
end

