-- ==== Sys2Proof/Laws/Kept.lean ====
section
/-! SUPPORT. What each operation of LDC can do besides its records and its notices: nothing at SCV, CHG, STO, DLU, the inputs of LDC, the notice clock and the queue of commands; MOT only hears reports, and no bridge is asked for anything (R54 to R80). -/

namespace Sys2Proof.Machine

/-- What every operation of LDC leaves alone: `Kept`, and DLU, MOT but for its reports, and what MOT asks of the bridges; a bridge that drives
at most what is asked goes on so. -/
structure Coordinated (s t : State) : Prop extends Kept s t where
  dlu : t.dlu = s.dlu
  mot : { t.mot with reports := [] } = { s.mot with reports := [] }
  requested : ∀ a, (t.bridge a).requested = (s.bridge a).requested
  follows : ∀ a, ((s.bridge a).effective = (s.bridge a).requested ∨ (s.bridge a).effective = .coast) →
    (t.bridge a).effective = (t.bridge a).requested ∨ (t.bridge a).effective = .coast

theorem Kept.refl (s : State) : Kept s s := ⟨rfl, rfl, rfl, rfl, rfl, rfl, rfl, fun _ => .refl _⟩

theorem Kept.trans {s t u : State} (h : Kept s t) (k : Kept t u) : Kept s u :=
  ⟨k.scv.trans h.scv, k.chg.trans h.chg, k.sto.trans h.sto, k.inputs.trans h.inputs, k.noticeClock.trans h.noticeClock,
    k.freeIndex.trans h.freeIndex, k.pending.trans h.pending, fun p => (h.ports p).trans (k.ports p)⟩

theorem Coordinated.refl (s : State) : Coordinated s s := ⟨.refl s, rfl, rfl, fun _ => rfl, fun _ h => h⟩

theorem Coordinated.trans {s t u : State} (h : Coordinated s t) (k : Coordinated t u) : Coordinated s u :=
  ⟨h.toKept.trans k.toKept, k.dlu.trans h.dlu, k.mot.trans h.mot, fun a => (k.requested a).trans (h.requested a),
    fun a hf => k.follows a (h.follows a hf)⟩

/-- An axis is as it was. -/
theorem Coordinated.axis {s t : State} (h : Coordinated s t) (a : Axis) : t.axis a = s.axis a := by
  have := h.mot
  cases a <;> simp_all [State.axis]

/-- The motor sense is as it was. -/
theorem Coordinated.sense {s t : State} (h : Coordinated s t) : t.mot.sense = s.mot.sense := by
  have := h.mot
  simp_all

/-- A change of the records and counters of LDC, of CWC, of the calls that wait and of the reports to MOT. -/
theorem Coordinated.of_inner {s t : State} (hi : t.ldc.inputs = s.ldc.inputs)
    (hm : { t.mot with reports := [] } = { s.mot with reports := [] })
    (h : t = { s with ldc := t.ldc, cwc := t.cwc, calls := t.calls, mot := t.mot }) : Coordinated s t := by
  have hb : ∀ a, t.bridge a = s.bridge a := fun a => by rw [h]; cases a <;> rfl
  have hp : ∀ p, t.port p = s.port p := fun p => by rw [h]; cases p <;> rfl
  refine ⟨⟨?_, ?_, ?_, hi, ?_, ?_, ?_, fun p => ?_⟩, ?_, hm, fun a => by rw [hb a], fun a hf => by rw [hb a]; exact hf⟩
  case refine_7 => rw [hp p]; exact .refl _
  all_goals rw [h]

/-- A change of OUT alone that keeps the requests. -/
theorem Coordinated.of_out {s t : State} (h : t = { s with out := t.out })
    (hb : ∀ a, t.bridge a = s.bridge a) : Coordinated s t := by
  have hp : ∀ p, t.port p = s.port p := fun p => by rw [h]; cases p <;> rfl
  refine ⟨⟨?_, ?_, ?_, ?_, ?_, ?_, ?_, fun p => ?_⟩, ?_, ?_, fun a => by rw [hb a], fun a hf => by rw [hb a]; exact hf⟩
  case refine_8 => rw [hp p]; exact .refl _
  all_goals rw [h]

/-- A raised notice. -/
theorem coordinated_raise (k : NoticeKind) (n : Nat) (v : Int) (ps : List Port) (s : State) : Coordinated s (raise k n v ps s) :=
  ⟨⟨by simp, by simp, by simp, by simp, by simp, by simp, by simp, fun p => raise_grown s k n v ps p⟩, by simp, by simp, fun a => by simp,
    fun a hf => by simpa using hf⟩

theorem coordinated_raiseLoad (k : NoticeKind) (n : Fin 14) (v : Int) (o : Owner) (s : State) : Coordinated s (raiseLoad k n v o s) :=
  coordinated_raise ..

/-! ## OUT -/

theorem coordinated_setCompare (g : Fin 16) (v : Nat) (s : State) : Coordinated s (setCompare g v s) :=
  .of_out (by unfold setCompare; split <;> rfl) (fun a => setCompare_bridge s g v a)

theorem coordinated_setLevel (n : Fin 14) (v : Nat) (s : State) : Coordinated s (setLevel n v s) :=
  .trans (t := { s with out := { s.out with level := s.out.level.set n v } }) (.of_out rfl fun a => by cases a <;> rfl)
    (coordinated_setCompare ..)

theorem coordinated_setTarget (n : Fin 14) (v : Nat) (s : State) : Coordinated s (setTarget n v s) := by
  have h : Coordinated s { s with out := { s.out with target := s.out.target.set n v } } := .of_out rfl fun a => by cases a <;> rfl
  unfold setTarget
  dsimp only
  split
  · exact h
  · exact h.trans (coordinated_setLevel ..)

theorem coordinated_applyBridge (a : Axis) (s : State) : Coordinated s (applyBridge a s) := by
  refine ⟨⟨by simp, by simp, by simp, by simp, by simp, by simp, by simp, fun p => ?_⟩, by simp, by simp, fun c => ?_, fun c hf => ?_⟩
  · rw [applyBridge_port]; exact .refl _
  · by_cases h : c = a
    · subst h; exact (applyBridge_bridge s c).1
    · rw [applyBridge_bridge_of_ne s h]
  · by_cases h : c = a
    · subst h
      rw [(applyBridge_bridge s c).1, (applyBridge_bridge s c).2]
      split
      · exact .inl rfl
      · exact .inr rfl
    · rw [applyBridge_bridge_of_ne s h]; exact hf

theorem coordinated_outGrant (n : Fin 14) (v : Nat) (s : State) : Coordinated s (outGrant n v s) := by
  unfold outGrant
  split
  · exact coordinated_applyBridge ..
  · exact coordinated_setTarget ..

theorem coordinated_outChange (n : Fin 14) (v : Nat) (s : State) : Coordinated s (outChange n v s) := by
  unfold outChange
  split
  · exact .refl s
  · split
    · exact .refl s
    · exact coordinated_setTarget ..

theorem coordinated_outLoss (n : Fin 14) (s : State) : Coordinated s (outLoss n s) := by
  unfold outLoss
  split
  · exact coordinated_applyBridge ..
  · exact .trans (t := { s with out := { s.out with target := s.out.target.set n 0 } }) (.of_out rfl fun a => by cases a <;> rfl)
      (coordinated_setLevel ..)

/-! ## Records and their numbers -/

theorem coordinated_setLoad (n : Fin 14) (l : Option Load) (s : State) : Coordinated s (s.setLoad n l) := .of_inner rfl rfl rfl

theorem coordinated_dropLoad (n : Fin 14) (s : State) : Coordinated s (dropLoad n s) := by
  unfold dropLoad
  split
  · exact (coordinated_setLoad ..).trans (coordinated_outLoss ..)
  · exact coordinated_setLoad ..

theorem coordinated_refreshDrive (n : Fin 14) (s : State) : Coordinated s (refreshDrive n s) := by
  unfold refreshDrive
  split
  · split
    · exact coordinated_outChange ..
    · exact .refl s
  · exact .refl s

theorem coordinated_restamp (l : List (Fin 14 × Word16)) (k : Nat) (s : State) : Coordinated s (restamp l k s) := by
  induction l generalizing k s with
  | nil => exact .of_inner rfl rfl rfl
  | cons g l ih => exact (coordinated_setLoad ..).trans (ih ..)

theorem coordinated_regrant (l : List (Fin 14 × Word16)) (k : Nat) (s : State) : Coordinated s (regrant l k s) := by
  induction l generalizing k s with
  | nil => exact .of_inner rfl rfl rfl
  | cons g l ih => exact (coordinated_setLoad ..).trans (ih ..)

theorem coordinated_settleStamps (s : State) : Coordinated s (settleStamps s) := by
  unfold settleStamps
  split
  · exact coordinated_restamp ..
  · exact .refl s

theorem coordinated_settleOrders (s : State) : Coordinated s (settleOrders s) := by
  unfold settleOrders
  split
  · exact coordinated_regrant ..
  · exact .refl s

theorem coordinated_bumpStamp (s : State) : Coordinated s (bumpStamp s) := .of_inner rfl rfl rfl

theorem coordinated_bumpGrant (s : State) : Coordinated s (bumpGrant s) := .of_inner rfl rfl rfl

/-! ## Reports -/

theorem coordinated_pushCall (c : InternalCall) (s : State) : Coordinated s (pushCall c s) := .of_inner rfl rfl rfl

theorem coordinated_pushReport (a : Axis) (g : Bool) (s : State) : Coordinated s (pushReport a g s) := .of_inner rfl rfl rfl

theorem coordinated_setDump (d : DumpState) (s : State) : Coordinated s { s with cwc := { s.cwc with dump := d } } := .of_inner rfl rfl rfl

theorem coordinated_dumpInReport (k : Nat) (s : State) : Coordinated s (dumpInReport k s) :=
  (((coordinated_setDump .dumped s).trans (coordinated_dropLoad ..)).trans (coordinated_pushCall ..)).trans (coordinated_raise ..)

theorem coordinated_padLost (s : State) : Coordinated s (padLost s) := by
  unfold padLost
  split
  · exact coordinated_dumpInReport ..
  · exact .refl s

theorem coordinated_dumpLost (s : State) : Coordinated s (dumpLost s) := by
  unfold dumpLost
  split
  · exact coordinated_dumpInReport ..
  · exact .refl s

theorem coordinated_dumpGranted (s : State) : Coordinated s (dumpGranted s) := by
  unfold dumpGranted
  split
  · exact coordinated_setDump ..
  · exact .refl s

theorem coordinated_heatGated (s : State) : Coordinated s (heatGated s) := by
  unfold heatGated
  split
  · exact .trans (t := { s with cwc := { s.cwc with effMode := .fallback } }) (.of_inner rfl rfl rfl) (coordinated_pushCall ..)
  · exact .refl s

theorem coordinated_reportShed (n : Fin 14) (s : State) : Coordinated s (reportShed n s) := by
  unfold reportShed
  split
  · exact coordinated_pushReport ..
  · split
    · exact coordinated_padLost ..
    · split
      · exact coordinated_dumpLost ..
      · exact .refl s

theorem coordinated_reportGated (n : Fin 14) (s : State) : Coordinated s (reportGated n s) := by
  unfold reportGated
  split
  · exact coordinated_heatGated ..
  · exact coordinated_reportShed ..

theorem coordinated_reportGranted (n : Fin 14) (s : State) : Coordinated s (reportGranted n s) := by
  unfold reportGranted
  split
  · exact coordinated_pushReport ..
  · split
    · exact coordinated_dumpGranted ..
    · exact .refl s

/-! ## Admission -/

theorem coordinated_loseGrant (n : Fin 14) (l : Load) (ph : Phase) (s : State) : Coordinated s (loseGrant n l ph s) :=
  (coordinated_setLoad ..).trans (coordinated_outLoss ..)

theorem coordinated_shed (n : Fin 14) (s : State) : Coordinated s (shed n s) := by
  unfold shed
  split
  · exact ((coordinated_loseGrant ..).trans (coordinated_raiseLoad ..)).trans (coordinated_reportShed ..)
  · exact .refl s

theorem coordinated_gateQuietly (n : Fin 14) (l : Load) (r : GateReason) (s : State) : Coordinated s (gateQuietly n l r s) := by
  unfold gateQuietly
  split
  · exact coordinated_loseGrant ..
  · exact coordinated_setLoad ..

theorem coordinated_gateRecord (n : Fin 14) (l : Load) (r : GateReason) (s : State) : Coordinated s (gateRecord n l r s) :=
  ((coordinated_gateQuietly ..).trans (coordinated_raiseLoad ..)).trans (coordinated_reportGated ..)

theorem coordinated_grant (own : Option (Fin 14)) (n : Fin 14) (s : State) : Coordinated s (grant own n s) := by
  unfold grant
  split
  · split
    · have h (x : Option Load) : Coordinated s (bumpGrant ((settleOrders s).setLoad n x)) :=
        (coordinated_settleOrders s).trans ((coordinated_setLoad n x _).trans (coordinated_bumpGrant _))
      dsimp only
      split
      · exact (h _).trans (coordinated_outGrant ..)
      · exact (h _).trans ((coordinated_outGrant ..).trans ((coordinated_raiseLoad ..).trans (coordinated_reportGranted ..)))
    · exact .refl s
  · exact .refl s

theorem coordinated_shedUntilFits (n : Fin 14) (l : List (Fin 14)) (s : State) : Coordinated s (shedUntilFits n l s) := by
  induction l generalizing s with
  | nil => exact .refl s
  | cons m l ih =>
    unfold shedUntilFits
    split
    · exact .refl s
    · exact (coordinated_shed ..).trans (ih _)

theorem coordinated_preempt (own : Option (Fin 14)) (n : Fin 14) (s : State) : Coordinated s (preempt own n s) := by
  unfold preempt
  split
  · exact (coordinated_shedUntilFits ..).trans (coordinated_grant ..)
  · exact .refl s

theorem coordinated_walkOne (own : Option (Fin 14)) (s : State) (n : Fin 14) : Coordinated s (walkOne own s n) := by
  unfold walkOne
  split
  · split
    · split
      · exact coordinated_grant ..
      · split
        · exact coordinated_preempt ..
        · exact .refl s
    · exact .refl s
  · exact .refl s

theorem coordinated_foldl {f : State → Fin 14 → State} (hf : ∀ s n, Coordinated s (f s n)) (l : List (Fin 14)) (s : State) :
    Coordinated s (l.foldl f s) := by
  induction l generalizing s with
  | nil => exact .refl s
  | cons n l ih => exact (hf s n).trans (ih _)

theorem coordinated_walk (own : Option (Fin 14)) (s : State) : Coordinated s (walk own s) :=
  coordinated_foldl (coordinated_walkOne own) ..

/-! ## Requests and releases -/

theorem coordinated_requestFresh (n : Fin 14) (o : Owner) (v : Nat) (t : Tier) (m : Option Nat) (s : State) :
    Coordinated s (requestFresh n o v t m s) := by
  unfold requestFresh
  dsimp only
  refine (coordinated_settleStamps s).trans ((coordinated_bumpStamp _).trans ?_)
  split <;> exact (coordinated_setLoad ..).trans (coordinated_walk ..)

theorem coordinated_requestKeeping (n : Fin 14) (old l : Load) (s : State) : Coordinated s (requestKeeping n old l s) := by
  unfold requestKeeping
  dsimp only
  refine (coordinated_setLoad n (some l) s).trans ?_
  split
  · exact (coordinated_refreshDrive ..).trans (coordinated_walk ..)
  · split
    · exact (coordinated_gateQuietly ..).trans (coordinated_walk ..)
    · exact (coordinated_refreshDrive ..).trans (coordinated_walk ..)

theorem coordinated_requestLoad (n : Fin 14) (o : Owner) (v : Nat) (t : Tier) (m : Option Nat) (s : State) :
    Coordinated s (requestLoad n o v t m s) := by
  unfold requestLoad
  split
  · exact coordinated_requestFresh ..
  · split
    · exact coordinated_requestFresh ..
    · exact coordinated_requestKeeping ..

theorem coordinated_release (n : Fin 14) (s : State) : Coordinated s (release n s) := by
  unfold release
  split
  · exact .refl s
  · exact (coordinated_dropLoad ..).trans (coordinated_walk ..)

theorem coordinated_changePadLevel (duty : Nat) (s : State) : Coordinated s (changePadLevel duty s) := by
  unfold changePadLevel
  split
  · exact .refl s
  · exact (coordinated_setLoad ..).trans (coordinated_refreshDrive ..)

/-! ## Gate events and the budget -/

theorem coordinated_judgeOne (s : State) (n : Fin 14) : Coordinated s (judgeOne s n) := by
  unfold judgeOne
  split
  · exact .refl s
  · split
    · split
      · exact .refl s
      · exact (coordinated_setLoad ..).trans (coordinated_raiseLoad ..)
    · exact coordinated_gateRecord ..
    · exact coordinated_setLoad ..
    · exact coordinated_refreshDrive ..
    · exact .refl s

/-- A gate event does to its own change only what LDC's operations do (R75). -/
theorem coordinated_gateEvent (change : State → State) (s : State) : Coordinated (change s) (gateEvent change s) := by
  unfold gateEvent
  dsimp only
  have h : Coordinated (change s) (allRecords.foldl judgeOne (change s)) := coordinated_foldl coordinated_judgeOne ..
  split
  · exact h.trans (coordinated_walk ..)
  · exact h

theorem coordinated_shedToBudget (k : Nat) (s : State) : Coordinated s (shedToBudget k s) := by
  induction k generalizing s with
  | zero => exact .refl s
  | succ k ih =>
    unfold shedToBudget
    split
    · exact .refl s
    · split
      · exact (coordinated_shed ..).trans (ih _)
      · exact .refl s

/-- A new budget does to the state with that budget only what LDC's operations do (R64, R65). -/
theorem coordinated_recomputeBudget (s : State) :
    Coordinated { s with ldc := { s.ldc with budget := s.budgetNow } } (recomputeBudget s) := by
  unfold recomputeBudget
  dsimp only
  split
  · exact coordinated_walk ..
  · split
    · exact (coordinated_shedToBudget ..).trans (coordinated_walk ..)
    · exact .refl _

end Sys2Proof.Machine
end

