-- ==== Sys2Proof/Laws/Motion.lean ====
section
/-! SUPPORT. What MOT can do, whatever follows from an act: it leaves SCV, CHG, STO, the inputs of LDC, the notice clock and the queue of commands alone (06). -/

namespace Sys2Proof.Machine

/-- A change of MOT, OUT, DLU, CWC and the calls that wait. -/
theorem Kept.of_units {s t : State} (h : t = { s with mot := t.mot, out := t.out, dlu := t.dlu, cwc := t.cwc, calls := t.calls }) :
    Kept s t := by
  have hp : ∀ p, t.port p = s.port p := fun p => by rw [h]; cases p <;> rfl
  refine ⟨?_, ?_, ?_, ?_, ?_, ?_, ?_, fun p => ?_⟩
  case refine_8 => rw [hp p]; exact .refl _
  all_goals rw [h]

theorem kept_setAxis (a : Axis) (r : AxisRec) (s : State) : Kept s (s.setAxis a r) := .of_units (by cases a <;> rfl)

theorem kept_mapAxis (a : Axis) (f : AxisRec → AxisRec) (s : State) : Kept s (s.mapAxis a f) := kept_setAxis ..

theorem kept_setSense (o : Option Axis) (s : State) : Kept s (setSense o s) := .of_units rfl

theorem kept_setMark (a : Axis) (v : Bool) (s : State) : Kept s (setMark a v s) := .of_units (by cases a <;> rfl)

theorem kept_setLock (l : LockState) (s : State) : Kept s (setLock l s) := .of_units rfl

theorem kept_raise (k : NoticeKind) (n : Nat) (v : Int) (ps : List Port) (s : State) : Kept s (raise k n v ps s) :=
  (coordinated_raise ..).toKept

theorem kept_requestBridge (a : Axis) (r : BridgeState) (s : State) : Kept s (requestBridge a r s) :=
  .trans (t := s.setBridge a { s.bridge a with requested := r }) (.of_units (by cases a <;> rfl)) (coordinated_applyBridge ..).toKept

theorem kept_release (n : Fin 14) (s : State) : Kept s (release n s) := (coordinated_release ..).toKept

theorem kept_requestLoad (n : Fin 14) (o : Owner) (v : Nat) (t : Tier) (m : Option Nat) (s : State) : Kept s (requestLoad n o v t m s) :=
  (coordinated_requestLoad ..).toKept

theorem kept_startDrive (a : Axis) (d : Dir) (s : State) : Kept s (startDrive a d s) :=
  (kept_mapAxis ..).trans (kept_requestBridge ..)

theorem kept_enterStopping (a : Axis) (c : Continuation) (s : State) : Kept s (enterStopping a c s) :=
  (kept_mapAxis ..).trans (kept_requestBridge ..)

theorem kept_setContinuation (a : Axis) (c : Continuation) (s : State) : Kept s (setContinuation a c s) := kept_mapAxis ..

theorem kept_haltStopping (a : Axis) (c : HaltCause) (s : State) : Kept s (haltStopping a c s) := by
  unfold haltStopping
  split
  · exact kept_setContinuation ..
  · split
    · exact kept_setContinuation ..
    · exact .refl s
  · exact kept_setContinuation ..

theorem kept_haltRunning (a : Axis) (c : HaltCause) (s : State) : Kept s (haltRunning a c s) := by
  unfold haltRunning
  split <;> exact kept_enterStopping ..

theorem kept_waitStopping (a : Axis) (s : State) : Kept s (waitStopping a s) := by
  unfold waitStopping
  split
  · exact kept_setContinuation ..
  · split
    · exact (kept_mapAxis ..).trans (kept_setContinuation ..)
    · exact .refl s
  · exact .refl s

theorem kept_lockPlanEnds (a : Axis) (f : Option MotionFault) (s : State) : Kept s (lockPlanEnds a f s) := by
  unfold lockPlanEnds
  dsimp only
  split
  · exact .refl s
  · refine (kept_setMark a false s).trans ?_
    unfold lockFaults
    exact .trans (.of_units rfl) (kept_raise ..)
  · exact kept_setMark ..
  · split
    · exact ((kept_setMark ..).trans (kept_setLock ..)).trans (kept_raise ..)
    · exact kept_setMark ..

section
variable {k : MotAct → State → State} (hk : ∀ act s, Kept s (k act s))
include hk

theorem kept_handOverBy (s : State) : Kept s (handOverBy k s) := by
  unfold handOverBy
  split
  · exact .refl s
  · split
    · exact hk ..
    · split
      · exact hk ..
      · exact .refl s

theorem kept_waitBy (a : Axis) (s : State) : Kept s (waitBy k a s) := by
  unfold waitBy
  dsimp only
  split
  · exact (kept_mapAxis ..).trans (hk ..)
  · exact kept_mapAxis ..

theorem kept_takeSenseBy (a : Axis) (s : State) : Kept s (takeSenseBy k a s) := by
  unfold takeSenseBy
  dsimp only
  split
  · exact (kept_setSense ..).trans (hk ..)
  · have h : Kept s ((setSense (some a) s).mapAxis a (fun r => { r with state := .waitGrant })) :=
      (kept_setSense ..).trans (kept_mapAxis ..)
    split
    · exact h
    · split
      · exact (h.trans (kept_requestLoad ..)).trans (hk ..)
      · exact h.trans (kept_requestLoad ..)

theorem kept_releaseSenseBy (a : Axis) (s : State) : Kept s (releaseSenseBy k a s) := by
  unfold releaseSenseBy
  split
  · exact (kept_setSense ..).trans (hk ..)
  · exact .refl s

theorem kept_runBy (a : Axis) (s : State) : Kept s (runBy k a s) := by
  unfold runBy
  dsimp only
  split
  · exact .refl s
  · split
    · exact hk ..
    · split
      · split
        · exact ((kept_mapAxis ..).trans (kept_mapAxis ..)).trans (hk ..)
        · exact (kept_mapAxis ..).trans (hk ..)
      · split
        · exact hk ..
        · exact (kept_mapAxis ..).trans (kept_startDrive ..)

theorem kept_idleBy (a : Axis) (why : PlanEnd) (s : State) : Kept s (idleBy k a why s) := by
  unfold idleBy
  dsimp only
  have h := ((((kept_mapAxis a (fun r => r.discard .idle) s).trans (kept_requestBridge a .coast _)).trans
    (kept_release (axisRecord a) _)).trans (kept_releaseSenseBy hk a _)).trans
    (kept_raise why.notice.1 (axisCode a) why.notice.2 (sourcePorts (s.axis a).source) _)
  split
  · exact (h.trans (kept_lockPlanEnds ..)).trans (kept_mapAxis ..)
  · exact h.trans (kept_mapAxis ..)

theorem kept_faultBy (a : Axis) (s : State) : Kept s (faultBy k a s) := by
  unfold faultBy
  dsimp only
  have h := (((kept_mapAxis a (fun r => { r.discard .fault with faultKind := some ((s.axis a).faultKind.getD .obstruction) }) s).trans
    (kept_requestBridge a .coast _)).trans (kept_release (axisRecord a) _)).trans (kept_releaseSenseBy hk a _)
  generalize releaseSenseBy k a _ = s2 at *
  have h4 : Kept s (raise .motionFault (axisCode a) ((s.axis a).faultKind.getD .obstruction).code (sourcePorts (s.axis a).source)
      (if ((s.axis a).faultKind.getD .obstruction).spoilsCount = true then s2.mapAxis a (fun r => { r with known := false }) else s2)) := by
    refine .trans ?_ (kept_raise ..)
    split
    · exact h.trans (kept_mapAxis ..)
    · exact h
  generalize raise .motionFault _ _ _ _ = s4 at *
  have h6 (x : State) (hx : Kept s x) :
      Kept s (match (x.axis a).held with
        | some h => k (.plan a (Plan.single inwardEnd) .auto h none) (x.mapAxis a (fun r => { r with source := none, held := none }))
        | none => x.mapAxis a (fun r => { r with source := none, held := none })) := by
    split
    · exact (hx.trans (kept_mapAxis ..)).trans (hk ..)
    · exact hx.trans (kept_mapAxis ..)
  apply h6
  split
  · exact h4.trans (kept_lockPlanEnds ..)
  · exact h4

theorem kept_lossBy (a : Axis) (s : State) : Kept s (lossBy k a s) := by
  unfold lossBy
  dsimp only
  split
  · split <;> exact kept_enterStopping ..
  · exact kept_waitStopping ..
  · exact kept_haltRunning ..
  · exact kept_haltStopping ..
  · exact hk ..
  · exact hk ..
  · exact hk ..
  · exact .refl s

theorem kept_retierBy (a : Axis) (s : State) : Kept s (retierBy k a s) := by
  unfold retierBy
  dsimp only
  split
  · exact .refl s
  · split
    · exact .refl s
    · split
      · split
        · exact (kept_requestLoad ..).trans (hk ..)
        · exact kept_requestLoad ..
      · split
        · exact (kept_requestLoad ..).trans (hk ..)
        · exact kept_requestLoad ..

theorem kept_planActBy (a : Axis) (s : State) : Kept s (planActBy k a s) := by
  unfold planActBy
  dsimp only
  split
  · exact hk ..
  · exact (kept_mapAxis ..).trans (hk ..)
  · exact (kept_mapAxis ..).trans (hk ..)
  · exact kept_setContinuation ..
  · split
    · exact (kept_mapAxis ..).trans (kept_enterStopping ..)
    · split
      · exact kept_mapAxis ..
      · exact (kept_mapAxis ..).trans (kept_enterStopping ..)
  · exact .refl s

theorem kept_planBy (a : Axis) (p : Plan) (m : Mode) (src : Source) (j : Option Port) (s : State) : Kept s (planBy k a p m src j s) :=
  ((kept_mapAxis ..).trans (kept_planActBy hk ..)).trans (kept_retierBy hk ..)

theorem kept_motAct (act : MotAct) (s : State) : Kept s (motAct k act s) := by
  cases act with
  | handOver => exact kept_handOverBy hk s
  | wait a => exact kept_waitBy hk a s
  | takeSense a => exact kept_takeSenseBy hk a s
  | run a => exact kept_runBy hk a s
  | idle a why => exact kept_idleBy hk a why s
  | fault a => exact kept_faultBy hk a s
  | plan a p m src j => exact kept_planBy hk a p m src j s
  | loss a => exact kept_lossBy hk a s

end

theorem kept_motWithin (d : Nat) (act : MotAct) (s : State) : Kept s (motWithin d act s) := by
  induction d generalizing act s with
  | zero => exact .refl s
  | succ d ih => exact kept_motAct ih act s

/-- An act of MOT with all that follows from it. -/
theorem kept_mot (act : MotAct) (s : State) : Kept s (mot act s) := kept_motWithin 16 act s

theorem kept_takeReport (q : MotReport) (s : State) : Kept s (takeReport q s) := by
  unfold takeReport
  split
  · split
    · exact kept_mot ..
    · exact .refl s
  · exact kept_mot ..

theorem kept_settleWithin (d : Nat) (s : State) : Kept s (settleWithin d s) := by
  induction d generalizing s with
  | zero => exact .of_units rfl
  | succ d ih =>
    unfold settleWithin
    split
    · exact .refl s
    · exact (Kept.trans (.of_units rfl) (kept_takeReport ..)).trans (ih _)

/-- The reports that MOT takes. -/
theorem kept_settle (s : State) : Kept s (settle s) := kept_settleWithin 64 s

theorem settleWithin_settled (d : Nat) (s : State) : (settleWithin d s).Settled := by
  induction d generalizing s with
  | zero => rfl
  | succ d ih =>
    unfold settleWithin
    split
    · assumption
    · exact ih _

/-- After the taking of the reports none waits. -/
theorem settle_settled (s : State) : (settle s).Settled := settleWithin_settled 64 s

/-- With no report waiting there is nothing to take. -/
theorem settle_of_settled {s : State} (h : s.Settled) : settle s = s := by
  unfold settle settleWithin
  rw [h]

/-- The taking of the reports is done once it is done. -/
@[simp] theorem settle_settle (s : State) : settle (settle s) = settle s := settle_of_settled (settle_settled s)

theorem kept_retract (a : Axis) (src : Source) (s : State) : Kept s (retract a src s) := by
  unfold retract
  split
  · exact kept_mapAxis ..
  · exact kept_mot ..

/-! ## What is said of one axis alone -/

theorem OnlyAxis.trans {a : Axis} {s t u : State} (h : OnlyAxis a s t) (k : OnlyAxis a t u) : OnlyAxis a s u where
  mot r := (k.mot r).trans (h.mot r)
  bridges b hb := (k.bridges b hb).trans (h.bridges b hb)
  outputs := ⟨k.outputs.1.trans h.outputs.1, k.outputs.2.1.trans h.outputs.2.1, k.outputs.2.2.trans h.outputs.2.2⟩
  gates g h1 h2 := ⟨(k.gates g h1 h2).1.trans (h.gates g h1 h2).1, (k.gates g h1 h2).2.trans (h.gates g h1 h2).2⟩
  rest := by
    have e1 := h.rest
    have e2 := k.rest
    rw [e2]
    conv => lhs; rw [e1]

theorem onlyAxis_refl (a : Axis) (s : State) : OnlyAxis a s s :=
  ⟨fun _ => rfl, fun _ _ => rfl, ⟨rfl, rfl, rfl⟩, fun _ _ _ => ⟨rfl, rfl⟩, rfl⟩

theorem onlyAxis_setAxis (a : Axis) (r : AxisRec) (s : State) : OnlyAxis a s (s.setAxis a r) :=
  ⟨fun _ => by cases a <;> rfl, fun b _ => by simp, by cases a <;> exact ⟨rfl, rfl, rfl⟩, fun g _ _ => by simp, by cases a <;> rfl⟩

theorem onlyAxis_of_out {a : Axis} {s t : State} (hb : ∀ b, b ≠ a → t.bridge b = s.bridge b)
    (h1 : t.out.target = s.out.target ∧ t.out.level = s.out.level ∧ t.out.timebase = s.out.timebase)
    (hg : ∀ g : Fin 16, g ≠ gateA a → g ≠ gateB a →
      t.out.compare[g.val] = s.out.compare[g.val] ∧ t.out.waiting[g.val] = s.out.waiting[g.val])
    (hr : t = { s with out := t.out }) : OnlyAxis a s t :=
  ⟨fun r => by rw [hr]; cases a <;> rfl, hb, h1, hg, by rw [hr]⟩

theorem onlyAxis_enterBridge (a : Axis) (e : BridgeState) (s : State) : OnlyAxis a s (enterBridge a e s) :=
  onlyAxis_of_out (fun _ hb => enterBridge_bridge_of_ne _ _ hb) (by cases e <;> simp [enterBridge])
    (fun g h1 h2 => by cases e <;> simp [enterBridge, setCompare_compare, setCompare_waiting, h1, h2]) (by cases a <;> cases e <;> rfl)

/-- A request for a bridge touches that bridge and its two outputs (R88). -/
theorem onlyAxis_requestBridge (a : Axis) (r : BridgeState) (s : State) : OnlyAxis a s (requestBridge a r s) := by
  have h0 : OnlyAxis a s (s.setBridge a { s.bridge a with requested := r }) :=
    onlyAxis_of_out (fun _ hb => setBridge_bridge_of_ne _ _ hb) (by simp) (fun g _ _ => by simp) (by cases a <;> rfl)
  unfold requestBridge
  rcases applyBridge_cases (s.setBridge a { s.bridge a with requested := r }) a with h | ⟨e, h⟩
  · rw [h]; exact h0
  · rw [h]; exact h0.trans (onlyAxis_enterBridge ..)

/-- Entry to STOPPING touches one axis and brakes its bridge (R106). -/
theorem onlyAxis_enterStopping (a : Axis) (c : Continuation) (s : State) : OnlyAxis a s (enterStopping a c s) :=
  (onlyAxis_setAxis ..).trans (onlyAxis_requestBridge ..)

/-- A start of the drive touches one axis (R101). -/
theorem onlyAxis_startDrive (a : Axis) (d : Dir) (s : State) : OnlyAxis a s (startDrive a d s) :=
  (onlyAxis_setAxis ..).trans (onlyAxis_requestBridge ..)

/-- The axis record after the entry to STOPPING (R106). -/
theorem enterStopping_axis (a : Axis) (c : Continuation) (s : State) :
    (enterStopping a c s).axis a = { s.axis a with
      state := .stopping, lastPulse := false, continuation := some c, backOff := if c = .backOff then (s.axis a).backOff else none } ∧
    ((enterStopping a c s).bridge a).requested = .brake := by
  refine ⟨?_, (requestBridge_bridge ..).1⟩
  simp [enterStopping]

/-- Entry to STOPPING brings no report. -/
theorem enterStopping_settled (a : Axis) (c : Continuation) {s : State} (h : s.Settled) : (enterStopping a c s).Settled := by
  unfold State.Settled enterStopping at *
  simpa using h

/-! ## A plan for an IDLE axis -/

/-- A plan given to an IDLE axis whose record is OFF, while the sense is held: the axis waits for the sense with it (R99, R100). -/
theorem mot_plan_of_sense_held {a b : Axis} {s : State} (hi : (s.axis a).state = .idle) (hb : s.mot.sense = some b)
    (hl : s.load (axisRecord a) = none) (p : Plan) (m : Mode) (src : Source) (j : Option Port) :
    mot (.plan a p m src j) s = s.setAxis a { s.axis a with
      state := .waitMotor, plan := some p, mode := m, source := some src, jogPort := j, jogLive := m == .jog } := by
  change planBy (motWithin 15) a p m src j s = _
  unfold planBy
  generalize hx : s.mapAxis a _ = x
  have h1 : planActBy (motWithin 15) a x = s.setAxis a { s.axis a with
      state := .waitMotor, plan := some p, mode := m, source := some src, jogPort := j, jogLive := m == .jog } := by
    subst hx
    unfold planActBy
    simp only [mapAxis_eq, setAxis_axis, hi]
    change waitBy (motWithin 14) a _ = _
    unfold waitBy
    simp [hb]
  rw [h1]
  unfold retierBy
  simp [hl]

end Sys2Proof.Machine
end

