-- ==== Sys2Proof/Laws/Calls.lean ====
section
/-! SUPPORT. What the calls on LDC can do, MOT's reactions with them: to the state with the change itself they do only what LDC, OUT and MOT can do, and no report waits after them (R54, R138 to R143, R64, R75). -/

namespace Sys2Proof.Machine

theorem kept_releaseCall (n : Fin 14) (s : State) : Kept s (releaseCall n s) := (kept_release ..).trans (kept_settle _)

theorem releaseCall_settled (n : Fin 14) (s : State) : (releaseCall n s).Settled := settle_settled _

theorem kept_requestCall {answered : State → State} (h : ∀ s, Kept s (answered s)) (n : Fin 14) (v : Nat) (t : Tier) (s : State) :
    Kept s (requestCall n v t answered s) :=
  ((kept_requestLoad ..).trans (h _)).trans (kept_settle _)

theorem requestCall_settled (n : Fin 14) (v : Nat) (t : Tier) (answered : State → State) (s : State) :
    (requestCall n v t answered s).Settled := settle_settled _

theorem kept_heatAnswered (s : State) : Kept s (heatAnswered s) := by
  unfold heatAnswered
  split
  · exact (coordinated_heatGated s).toKept
  · exact .refl s

theorem kept_requestHeat (s : State) : Kept s (requestHeat s) := kept_requestCall kept_heatAnswered ..

theorem kept_retierHeat (s : State) : Kept s (retierHeat s) := by
  unfold retierHeat
  split
  · split
    · exact .refl s
    · exact kept_requestHeat s
  · exact .refl s

theorem retierHeat_settled {s : State} (h : s.Settled) : (retierHeat s).Settled := by
  unfold retierHeat
  split
  · split
    · exact h
    · exact requestCall_settled ..
  · exact h

theorem kept_renewHeat (s : State) : Kept s (renewHeat s) := by
  unfold renewHeat
  split
  · exact kept_requestHeat s
  · exact .refl s

theorem renewHeat_settled {s : State} (h : s.Settled) : (renewHeat s).Settled := by
  unfold renewHeat
  split
  · exact requestCall_settled ..
  · exact h

theorem kept_endFallback (s : State) : Kept s (endFallback s) := by
  unfold endFallback
  split
  · exact .trans (.of_units rfl) (kept_renewHeat _)
  · exact .refl s

theorem endFallback_settled {s : State} (h : s.Settled) : (endFallback s).Settled := by
  unfold endFallback
  split
  · exact renewHeat_settled h
  · exact h

/-- A gate event with what follows it does to its own change only what LDC, OUT and MOT can do (R75, R143). -/
theorem kept_gateCall (change : State → State) (s : State) : Kept (change s) (gateCall change s) := by
  have h : Kept (change s) (settle (gateEvent change s)) := (coordinated_gateEvent ..).toKept.trans (kept_settle _)
  unfold gateCall
  dsimp only
  split
  · exact h.trans (kept_endFallback _)
  · exact h

theorem gateCall_settled (change : State → State) (s : State) : (gateCall change s).Settled := by
  unfold gateCall
  dsimp only
  split
  · exact endFallback_settled (settle_settled _)
  · exact settle_settled _

/-- A new budget with what follows it does to the state with that budget only what LDC, OUT and MOT can do (R64, R65). -/
theorem kept_budgetCall (s : State) : Kept { s with ldc := { s.ldc with budget := s.budgetNow } } (budgetCall s) :=
  (coordinated_recomputeBudget s).toKept.trans (kept_settle _)

theorem budgetCall_settled (s : State) : (budgetCall s).Settled := settle_settled _

end Sys2Proof.Machine
end

