-- ==== Sys2Proof/Laws/Loads.lean ====
section
/-! SUPPORT. The small cases of LDC's operations: admission with nothing PENDING, a fresh request that is granted at once, a release (R46, R48, R50, R55 to R58). -/

namespace Sys2Proof.Machine

/-! ## Admission over short lists -/

/-- With nothing PENDING admission does nothing (R57). -/
theorem walk_of_pendingList_nil (own : Option (Fin 14)) {s : State} (h : s.pendingList = []) : walk own s = s := by
  unfold walk
  rw [h]
  rfl

theorem insertPending_ne_nil (c : Word16) (x : Fin 14 × Load) (l : List (Fin 14 × Load)) : insertPending c x l ≠ [] := by
  cases l with
  | nil => simp [insertPending]
  | cons m l => unfold insertPending; split <;> simp

/-- The pending list is empty exactly where no record is PENDING (R55). -/
theorem pendingList_eq_nil_iff (s : State) : s.pendingList = [] ↔ ∀ n, s.pendingEntry n = none := by
  have hall : ∀ n : Fin 14, n ∈ allRecords := by decide
  unfold State.pendingList
  rw [List.map_eq_nil_iff]
  constructor
  · intro h n
    have : allRecords.filterMap s.pendingEntry = [] := by
      cases hl : allRecords.filterMap s.pendingEntry with
      | nil => rfl
      | cons x l => rw [hl] at h; exact absurd h (insertPending_ne_nil _ _ _)
    exact List.filterMap_eq_nil_iff.1 this n (hall n)
  · intro h
    have : allRecords.filterMap s.pendingEntry = [] := List.filterMap_eq_nil_iff.2 fun n _ => h n
    rw [this]
    rfl

theorem filterMap_allRecords_single {α : Type} (n : Fin 14) (x : α) (f : Fin 14 → Option α) (hn : f n = some x)
    (ho : ∀ m, m ≠ n → f m = none) : allRecords.filterMap f = [x] := by
  have hf : f = fun m => if m = n then some x else none := by
    funext m
    by_cases h : m = n
    · subst h; simp [hn]
    · simp [h, ho m h]
  rw [hf]
  revert n
  intro n _ _ _
  fin_cases n <;> rfl

/-- With one record PENDING the pending list holds it alone (R55). -/
theorem pendingList_single {s : State} {n : Fin 14} {l : Load} (h : s.load n = some l) (hp : l.isPending = true)
    (ho : ∀ m, m ≠ n → s.pendingEntry m = none) : s.pendingList = [n] := by
  unfold State.pendingList
  rw [filterMap_allRecords_single n (n, l) s.pendingEntry (by simp [State.pendingEntry, h, hp]) ho]
  rfl

/-! ## Renumbering (R46) -/

/-- The records are as they were but for their numbers. -/
def Renumbered (s t : State) : Prop := ∀ n, (t.load n).map Load.unnumbered = (s.load n).map Load.unnumbered

theorem Renumbered.trans {s t u : State} (h : Renumbered s t) (k : Renumbered t u) : Renumbered s u := fun n => (k n).trans (h n)

theorem renumbered_setLoad {s : State} (n : Fin 14) {l : Option Load} (h : l.map Load.unnumbered = (s.load n).map Load.unnumbered) :
    Renumbered s (s.setLoad n l) := by
  intro m
  by_cases hm : m = n
  · subst hm; simpa using h
  · rw [setLoad_load_of_ne _ _ hm]

theorem unnumbered_stamp (l : Load) (k : Word16) : ({ l with stamp := k } : Load).unnumbered = l.unnumbered := rfl

theorem unnumbered_reorder (l : Load) (k : Word16) : (l.reorder k).unnumbered = l.unnumbered := by
  obtain ⟨o, v, t, st, ao, ph⟩ := l
  cases ph <;> rfl

theorem renumbered_restamp (g : List (Fin 14 × Word16)) (k : Nat) (s : State) : Renumbered s (restamp g k s) := by
  induction g generalizing k s with
  | nil => exact fun _ => rfl
  | cons x g ih =>
    refine Renumbered.trans (renumbered_setLoad x.1 ?_) (ih (k + 1) _)
    rw [Option.map_map]
    rfl

theorem renumbered_regrant (g : List (Fin 14 × Word16)) (k : Nat) (s : State) : Renumbered s (regrant g k s) := by
  induction g generalizing k s with
  | nil => exact fun _ => rfl
  | cons x g ih =>
    refine Renumbered.trans (renumbered_setLoad x.1 ?_) (ih (k + 1) _)
    rw [Option.map_map]
    cases s.load x.1 with
    | none => rfl
    | some l => exact congrArg some (unnumbered_reorder l _)

theorem renumbered_settleStamps (s : State) : Renumbered s (settleStamps s) := by
  unfold settleStamps
  split
  · exact renumbered_restamp _ _ s
  · exact fun _ => rfl

theorem renumbered_settleOrders (s : State) : Renumbered s (settleOrders s) := by
  unfold settleOrders
  split
  · exact renumbered_regrant _ _ s
  · exact fun _ => rfl

/-- A counter that is no live number renumbers nothing (R46). -/
theorem settleStamps_of_free {s : State} (h : ∀ g ∈ s.stamps, g.2 ≠ s.ldc.stampCounter) : settleStamps s = s := by
  unfold settleStamps
  rw [if_neg]
  simpa using fun a hg => h (a, _) hg rfl

theorem settleOrders_of_free {s : State} (h : ∀ g ∈ s.orders, g.2 ≠ s.ldc.grantCounter) : settleOrders s = s := by
  unfold settleOrders
  rw [if_neg]
  simpa using fun a hg => h (a, _) hg rfl

theorem isPending_unnumbered (l : Load) : l.unnumbered.isPending = l.isPending := by
  obtain ⟨o, v, t, st, ao, ph⟩ := l
  cases ph <;> rfl

theorem countedCurrent_unnumbered (o : Option Load) : countedCurrent (o.map Load.unnumbered) = countedCurrent o := by
  cases o with
  | none => rfl
  | some l =>
    obtain ⟨o, v, t, st, ao, ph⟩ := l
    cases ph <;> rfl

theorem Renumbered.pendingEntry {s t : State} (h : Renumbered s t) (n : Fin 14) : t.pendingEntry n = none ↔ s.pendingEntry n = none := by
  have hn := h n
  unfold State.pendingEntry
  cases hs : s.load n <;> cases ht : t.load n <;> simp_all
  rw [← isPending_unnumbered, hn, isPending_unnumbered]

theorem Renumbered.grantedSum {s t : State} (h : Renumbered s t) : t.grantedSum = s.grantedSum := by
  unfold State.grantedSum
  congr 1
  refine List.map_congr_left fun n _ => ?_
  rw [← countedCurrent_unnumbered, h n, countedCurrent_unnumbered]

/-! ## What the inputs of LDC decide -/

theorem inputs_fields {d e : Ldc} (h : d.inputs = e.inputs) : d.gateOpen = e.gateOpen ∧ d.supply = e.supply ∧ d.engine = e.engine ∧
    d.lvd = e.lvd ∧ d.critical = e.critical ∧ d.soc = e.soc ∧ d.budget = e.budget ∧ d.dryRunHold = e.dryRunHold ∧
    d.dumpedHold = e.dumpedHold ∧ d.scenes = e.scenes := by
  unfold Ldc.inputs at h
  injection h
  simp_all

theorem holdingReason_congr {s t : State} (hs : t.sto = s.sto) (hi : t.ldc.inputs = s.ldc.inputs) (n : Fin 14) (tier : Tier) :
    t.holdingReason n tier = s.holdingReason n tier := by
  obtain ⟨h1, -, -, h2, h3, -, -, h4, h5, -⟩ := inputs_fields hi
  unfold State.holdingReason State.capApplies
  rw [h1, h2, h3, h4, h5, hs]

theorem driveLevel_congr {s t : State} (hs : t.sto = s.sto) (hi : t.ldc.inputs = s.ldc.inputs) (n : Fin 14) (l : Load) :
    t.driveLevel n l = s.driveLevel n l := by
  obtain ⟨h1, -, -, h2, h3, -⟩ := inputs_fields hi
  unfold State.driveLevel State.capped State.capApplies tierCondition
  rw [h1, h2, h3, hs]

/-! ## A fresh request that is granted at once -/

theorem grantedSum_setLoad {s : State} {n : Fin 14} {l : Option Load} (h : countedCurrent l = countedCurrent (s.load n)) :
    (s.setLoad n l).grantedSum = s.grantedSum := by
  unfold State.grantedSum
  congr 1
  refine List.map_congr_left fun m _ => ?_
  by_cases hm : m = n
  · subst hm; rw [setLoad_load, h]
  · rw [setLoad_load_of_ne _ _ hm]

/-- The record of a fresh request, PENDING with a stamp. -/
def freshRecord (owner : Owner) (level : Nat) (tier : Tier) (stamp : Word16) (autoOff : Option Nat) : Load :=
  ⟨owner, level, tier, stamp, autoOff, .pending false⟩

/-- The state in which the record of a fresh request enters admission (R50). -/
def freshPending (n : Fin 14) (owner : Owner) (level : Nat) (tier : Tier) (autoOff : Option Nat) (s : State) : State :=
  (bumpStamp (settleStamps s)).setLoad n (some (freshRecord owner level tier (settleStamps s).ldc.stampCounter autoOff))

/-- The state in which OUT takes the grant of a fresh request (R58). -/
def freshGranted (n : Fin 14) (owner : Owner) (level : Nat) (tier : Tier) (autoOff : Option Nat) (s : State) : State :=
  let s3 := freshPending n owner level tier autoOff s
  bumpGrant ((settleOrders s3).setLoad n (some { freshRecord owner level tier (settleStamps s).ldc.stampCounter autoOff with
    phase := .granted (settleOrders s3).ldc.grantCounter (settleOrders s3).sto.live.declared[n] }))

theorem coordinated_freshPending (n : Fin 14) (owner : Owner) (level : Nat) (tier : Tier) (autoOff : Option Nat) (s : State) :
    Coordinated s (freshPending n owner level tier autoOff s) :=
  ((coordinated_settleStamps s).trans (coordinated_bumpStamp _)).trans (coordinated_setLoad ..)

theorem coordinated_freshGranted (n : Fin 14) (owner : Owner) (level : Nat) (tier : Tier) (autoOff : Option Nat) (s : State) :
    Coordinated s (freshGranted n owner level tier autoOff s) :=
  (((coordinated_freshPending n owner level tier autoOff s).trans (coordinated_settleOrders _)).trans (coordinated_setLoad ..)).trans
    (coordinated_bumpGrant _)

theorem freshPending_load_of_ne (n m : Fin 14) (owner : Owner) (level : Nat) (tier : Tier) (autoOff : Option Nat) (s : State) (h : m ≠ n) :
    (freshPending n owner level tier autoOff s).load m = (settleStamps s).load m := setLoad_load_of_ne _ _ h

theorem freshGranted_load_of_ne (n m : Fin 14) (owner : Owner) (level : Nat) (tier : Tier) (autoOff : Option Nat) (s : State) (h : m ≠ n) :
    (freshGranted n owner level tier autoOff s).load m = (settleOrders (freshPending n owner level tier autoOff s)).load m :=
  setLoad_load_of_ne _ _ h

/-- A request on a record that is OFF, where nothing else is PENDING, nothing holds it and it fits: it is granted, and OUT takes its drive
level (R50, R57, R58). -/
theorem requestLoad_of_freshFits {s : State} {n : Fin 14} {tier : Tier} (h : s.freshFits n tier) (owner : Owner) (level : Nat)
    (autoOff : Option Nat) :
    requestLoad n owner level tier autoOff s =
      outGrant n (s.driveLevel n (freshRecord owner level tier 0 none)) (freshGranted n owner level tier autoOff s) := by
  have hc1 : Coordinated s (bumpStamp (settleStamps s)) := (coordinated_settleStamps s).trans (coordinated_bumpStamp _)
  have hc := coordinated_freshPending n owner level tier autoOff s
  have hr : (bumpStamp (settleStamps s)).holdingReason n tier = none := by
    rw [holdingReason_congr hc1.sto hc1.inputs]; exact h.notHeld
  have hn1 : Renumbered s (bumpStamp (settleStamps s)) := renumbered_settleStamps s
  have hload : (freshPending n owner level tier autoOff s).load n =
      some (freshRecord owner level tier (settleStamps s).ldc.stampCounter autoOff) := setLoad_load ..
  have hoff : (bumpStamp (settleStamps s)).load n = none := by
    have := hn1 n
    rw [h.off] at this
    simpa using this
  have hlist : (freshPending n owner level tier autoOff s).pendingList = [n] := by
    refine pendingList_single hload rfl fun m hm => ?_
    have h1 : (bumpStamp (settleStamps s)).pendingEntry m = none :=
      (hn1.pendingEntry m).2 ((pendingList_eq_nil_iff s).1 h.alone m)
    unfold State.pendingEntry at *
    unfold freshPending
    rw [setLoad_load_of_ne _ _ hm]
    revert h1
    cases (bumpStamp (settleStamps s)).load m <;> simp
  have hsum : (freshPending n owner level tier autoOff s).grantedSum = s.grantedSum := by
    unfold freshPending
    rw [grantedSum_setLoad (by rw [hoff]; rfl), hn1.grantedSum]
  have hfits : (freshPending n owner level tier autoOff s).fits n = true := by
    have hb : (freshPending n owner level tier autoOff s).ldc.budget = s.ldc.budget := (inputs_fields hc.inputs).2.2.2.2.2.2.1
    unfold State.fits
    rw [hsum, hb, hc.sto]
    exact decide_eq_true h.fits
  unfold requestLoad
  rw [h.off]
  unfold requestFresh
  dsimp only
  rw [hr]
  dsimp only
  change walk (some n) (freshPending n owner level tier autoOff s) = _
  unfold walk
  rw [hlist]
  simp only [List.foldl_cons, List.foldl_nil]
  unfold walkOne
  rw [hload]
  simp only [freshRecord, Load.isPending, if_true, hfits]
  unfold grant
  rw [hload]
  simp only [freshRecord, if_true]
  have hco := hc.trans (coordinated_settleOrders _)
  have hd : (settleOrders (freshPending n owner level tier autoOff s)).driveLevel n
      ⟨owner, level, tier, (settleStamps s).ldc.stampCounter, autoOff, .pending false⟩ =
      s.driveLevel n ⟨owner, level, tier, 0, none, .pending false⟩ := by
    rw [driveLevel_congr hco.sto hco.inputs]
    rfl
  rw [hd]
  rfl

/-- A granted fresh request, record by record (R46, R50, R58). -/
theorem grantedFresh_of_freshFits {s : State} {n : Fin 14} {tier : Tier} (h : s.freshFits n tier) (owner : Owner) (level : Nat)
    (autoOff : Option Nat) :
    GrantedFresh n owner level tier autoOff s (requestLoad n owner level tier autoOff s) := by
  rw [requestLoad_of_freshFits h]
  generalize s.driveLevel n (freshRecord owner level tier 0 none) = v
  have hc := coordinated_freshPending n owner level tier autoOff s
  have hco := hc.trans (coordinated_settleOrders _)
  have hn1 : Renumbered s (bumpStamp (settleStamps s)) := renumbered_settleStamps s
  have hfree (hf : s.numbersFree) : settleStamps s = s ∧ settleOrders (freshPending n owner level tier autoOff s) =
      freshPending n owner level tier autoOff s := by
    have h1 := settleStamps_of_free hf.1
    refine ⟨h1, settleOrders_of_free fun g hg => ?_⟩
    have ho : (freshPending n owner level tier autoOff s).orders = s.orders := by
      unfold State.orders
      refine List.filterMap_congr fun m _ => ?_
      by_cases hm : m = n
      · subst hm
        unfold freshPending
        rw [setLoad_load, h.off]
        rfl
      · unfold freshPending
        rw [setLoad_load_of_ne _ _ hm, h1]
        rfl
    rw [ho] at hg
    have := hf.2 g hg
    unfold freshPending
    rw [h1]
    exact this
  refine ⟨⟨(settleStamps s).ldc.stampCounter, (settleOrders (freshPending n owner level tier autoOff s)).ldc.grantCounter, ?_, ?_⟩,
    fun m hm => ?_, fun hf m hm => ?_, fun hf => ?_, ?_⟩
  · rw [outGrant_load]
    change ((settleOrders _).setLoad n _).load n = _
    rw [setLoad_load, hco.sto]
    rfl
  · intro hf
    rw [(hfree hf).2, (hfree hf).1]
    refine ⟨rfl, ?_⟩
    unfold freshPending
    rw [(hfree hf).1]
    rfl
  · rw [outGrant_load, freshGranted_load_of_ne _ _ _ _ _ _ _ hm, renumbered_settleOrders _ m, freshPending_load_of_ne _ _ _ _ _ _ _ hm]
    exact renumbered_settleStamps s m
  · rw [outGrant_load, freshGranted_load_of_ne _ _ _ _ _ _ _ hm, (hfree hf).2, freshPending_load_of_ne _ _ _ _ _ _ _ hm, (hfree hf).1]
  · rw [outGrant_ldc]
    unfold freshGranted
    dsimp only
    rw [(hfree hf).2]
    unfold freshPending
    rw [(hfree hf).1]
    exact ⟨rfl, rfl⟩
  · exact ((coordinated_freshGranted n owner level tier autoOff s).trans (coordinated_outGrant ..)).inputs

/-! ## A record that goes OFF -/

/-- A record that goes OFF while no other is PENDING: it is dropped, and admission finds nothing (R48). -/
theorem release_of_alone {s : State} {n : Fin 14} {l : Load} (h : s.load n = some l) (ho : ∀ m, m ≠ n → s.pendingEntry m = none) :
    release n s = dropLoad n s := by
  unfold release
  rw [h]
  refine walk_of_pendingList_nil none ((pendingList_eq_nil_iff _).2 fun m => ?_)
  have hl : (dropLoad n s).load m = (s.setLoad n none).load m := by
    unfold dropLoad
    split
    · rw [outLoss_load]
    · rfl
  have := ho m
  unfold State.pendingEntry at *
  rw [hl]
  by_cases hm : m = n
  · subst hm; simp
  · rw [setLoad_load_of_ne _ _ hm]
    exact this hm

end Sys2Proof.Machine
end

