-- ==== Sys2Proof/Laws/PerInstr.lean ====
section
/-! SUPPORT. A statement about every command, made per constructor: a well-formed request command stands for a frame whose payload fits LEN. -/

/-- The payload of the frame that a well-formed command stands for is at most 56 bytes (R157). -/
def Sys2Proof.Laws.Shape.Statement (i : Sys2Proof.Instr) : Prop :=
  i.wf = true → ∀ k f, i.frame = some (k, f) → f.payload.length ≤ 56

namespace Sys2Proof.Laws

theorem Shape.powerOnReset : Shape.Statement (.powerOnReset) := by
  intro _ _ _ e; cases e

theorem Shape.resetn : Shape.Statement (.resetn) := by
  intro _ _ _ e; cases e

theorem Shape.storeReadComplete (fastFirst : Bool) : Shape.Statement (.storeReadComplete fastFirst) := by
  intro _ _ _ e; cases e

theorem Shape.fastTriggerExpiry : Shape.Statement (.fastTriggerExpiry) := by
  intro _ _ _ e; cases e

theorem Shape.slowTriggerExpiry : Shape.Statement (.slowTriggerExpiry) := by
  intro _ _ _ e; cases e

theorem Shape.fastConversionComplete (code : BitVec 12) : Shape.Statement (.fastConversionComplete code) := by
  intro _ _ _ e; cases e

theorem Shape.slowConversionComplete (code : BitVec 12) : Shape.Statement (.slowConversionComplete code) := by
  intro _ _ _ e; cases e

theorem Shape.refchkComplete (result : BitVec 13) : Shape.Statement (.refchkComplete result) := by
  intro _ _ _ e; cases e

theorem Shape.suspectRunLimit : Shape.Statement (.suspectRunLimit) := by
  intro _ _ _ e; cases e

theorem Shape.minutePush : Shape.Statement (.minutePush) := by
  intro _ _ _ e; cases e

theorem Shape.hourPush : Shape.Statement (.hourPush) := by
  intro _ _ _ e; cases e

theorem Shape.checkpointRequest (cause : CheckpointCause) : Shape.Statement (.checkpointRequest cause) := by
  intro _ _ _ e; cases e

theorem Shape.restWindowOpen : Shape.Statement (.restWindowOpen) := by
  intro _ _ _ e; cases e

theorem Shape.restWindowClose : Shape.Statement (.restWindowClose) := by
  intro _ _ _ e; cases e

theorem Shape.fullSync : Shape.Statement (.fullSync) := by
  intro _ _ _ e; cases e

theorem Shape.alarmChange (lvd critical : Bool) : Shape.Statement (.alarmChange lvd critical) := by
  intro _ _ _ e; cases e

theorem Shape.supplyChange (present : Bool) : Shape.Statement (.supplyChange present) := by
  intro _ _ _ e; cases e

theorem Shape.autoOffExpiry (n : Fin 14) : Shape.Statement (.autoOffExpiry n) := by
  intro _ _ _ e; cases e

theorem Shape.fadeStepExpiry : Shape.Statement (.fadeStepExpiry) := by
  intro _ _ _ e; cases e

theorem Shape.softStartExpiry (a : Axis) : Shape.Statement (.softStartExpiry a) := by
  intro _ _ _ e; cases e

theorem Shape.hallPulse (a : Axis) (gap : Nat) : Shape.Statement (.hallPulse a gap) := by
  intro _ _ _ e; cases e

theorem Shape.lastPulseTimerExpiry (a : Axis) : Shape.Statement (.lastPulseTimerExpiry a) := by
  intro _ _ _ e; cases e

theorem Shape.overcurrentTrip (a : Axis) : Shape.Statement (.overcurrentTrip a) := by
  intro _ _ _ e; cases e

theorem Shape.stoppingTimerExpiry (a : Axis) : Shape.Statement (.stoppingTimerExpiry a) := by
  intro _ _ _ e; cases e

theorem Shape.jogDeadlineExpiry (a : Axis) : Shape.Statement (.jogDeadlineExpiry a) := by
  intro _ _ _ e; cases e

theorem Shape.standbyTimerExpiry (a : Axis) : Shape.Statement (.standbyTimerExpiry a) := by
  intro _ _ _ e; cases e

theorem Shape.stopnActive : Shape.Statement (.stopnActive) := by
  intro _ _ _ e; cases e

theorem Shape.stopnInactive : Shape.Statement (.stopnInactive) := by
  intro _ _ _ e; cases e

theorem Shape.entryOpen : Shape.Statement (.entryOpen) := by
  intro _ _ _ e; cases e

theorem Shape.entryClose : Shape.Statement (.entryClose) := by
  intro _ _ _ e; cases e

theorem Shape.windPulse : Shape.Statement (.windPulse) := by
  intro _ _ _ e; cases e

theorem Shape.windWindowEnd : Shape.Statement (.windWindowEnd) := by
  intro _ _ _ e; cases e

theorem Shape.calmTimerExpiry : Shape.Statement (.calmTimerExpiry) := by
  intro _ _ _ e; cases e

theorem Shape.stalenessTimerExpiry : Shape.Statement (.stalenessTimerExpiry) := by
  intro _ _ _ e; cases e

theorem Shape.minimumOffExpiry : Shape.Statement (.minimumOffExpiry) := by
  intro _ _ _ e; cases e

theorem Shape.fallbackRequest : Shape.Statement (.fallbackRequest) := by
  intro _ _ _ e; cases e

theorem Shape.pumpHoldCall (hold : PumpHold) (set : Bool) : Shape.Statement (.pumpHoldCall hold set) := by
  intro _ _ _ e; cases e

theorem Shape.frameAbandoned (p : Port) (cause : AbandonCause) : Shape.Statement (.frameAbandoned p cause) := by
  intro _ _ _ e; cases e

theorem Shape.gapTimerExpiry (p : Port) : Shape.Statement (.gapTimerExpiry p) := by
  intro _ _ _ e; cases e

theorem Shape.unknownKind (kind : Byte) (f : Frame) : Shape.Statement (.unknownKind kind f) := by
  intro h k g e; cases e; simp [Instr.wf, Frame.wf] at h; exact h.2

theorem Shape.answerComplete (p : Port) : Shape.Statement (.answerComplete p) := by
  intro _ _ _ e; cases e

theorem Shape.linkReset (p : Port) : Shape.Statement (.linkReset p) := by
  intro _ _ _ e; cases e

theorem Shape.noticeClockTick : Shape.Statement (.noticeClockTick) := by
  intro _ _ _ e; cases e

theorem Shape.writeComplete : Shape.Statement (.writeComplete) := by
  intro _ _ _ e; cases e

theorem Shape.ident (f : Frame) : Shape.Statement (.ident f) := by
  intro h k g e; cases e; simpa [Instr.wf, Frame.wf] using h

theorem Shape.getEnergy (f : Frame) : Shape.Statement (.getEnergy f) := by
  intro h k g e; cases e; simpa [Instr.wf, Frame.wf] using h

theorem Shape.getHistory (f : Frame) : Shape.Statement (.getHistory f) := by
  intro h k g e; cases e; simpa [Instr.wf, Frame.wf] using h

theorem Shape.setCharge (f : Frame) : Shape.Statement (.setCharge f) := by
  intro h k g e; cases e; simpa [Instr.wf, Frame.wf] using h

theorem Shape.getLoad (f : Frame) : Shape.Statement (.getLoad f) := by
  intro h k g e; cases e; simpa [Instr.wf, Frame.wf] using h

theorem Shape.getLoads (f : Frame) : Shape.Statement (.getLoads f) := by
  intro h k g e; cases e; simpa [Instr.wf, Frame.wf] using h

theorem Shape.setLoad (f : Frame) : Shape.Statement (.setLoad f) := by
  intro h k g e; cases e; simpa [Instr.wf, Frame.wf] using h

theorem Shape.runScene (f : Frame) : Shape.Statement (.runScene f) := by
  intro h k g e; cases e; simpa [Instr.wf, Frame.wf] using h

theorem Shape.setScene (f : Frame) : Shape.Statement (.setScene f) := by
  intro h k g e; cases e; simpa [Instr.wf, Frame.wf] using h

theorem Shape.getScene (f : Frame) : Shape.Statement (.getScene f) := by
  intro h k g e; cases e; simpa [Instr.wf, Frame.wf] using h

theorem Shape.moveExtend (p : Port) (tag axis : Byte) (rest : List Byte) : Shape.Statement (.moveExtend p tag axis rest) := by
  intro h k g e; cases e; simp [Instr.wf] at h ⊢; omega

theorem Shape.moveRetract (p : Port) (tag axis : Byte) (rest : List Byte) : Shape.Statement (.moveRetract p tag axis rest) := by
  intro h k g e; cases e; simp [Instr.wf] at h ⊢; omega

theorem Shape.moveGoto (p : Port) (tag axis : Byte) (rest : List Byte) : Shape.Statement (.moveGoto p tag axis rest) := by
  intro h k g e; cases e; simp [Instr.wf] at h ⊢; omega

theorem Shape.moveJogOut (p : Port) (tag axis : Byte) (rest : List Byte) : Shape.Statement (.moveJogOut p tag axis rest) := by
  intro h k g e; cases e; simp [Instr.wf] at h ⊢; omega

theorem Shape.moveJogIn (p : Port) (tag axis : Byte) (rest : List Byte) : Shape.Statement (.moveJogIn p tag axis rest) := by
  intro h k g e; cases e; simp [Instr.wf] at h ⊢; omega

theorem Shape.moveContinue (p : Port) (tag axis : Byte) (rest : List Byte) : Shape.Statement (.moveContinue p tag axis rest) := by
  intro h k g e; cases e; simp [Instr.wf] at h ⊢; omega

theorem Shape.moveStop (p : Port) (tag axis : Byte) (rest : List Byte) : Shape.Statement (.moveStop p tag axis rest) := by
  intro h k g e; cases e; simp [Instr.wf] at h ⊢; omega

theorem Shape.getMotion (f : Frame) : Shape.Statement (.getMotion f) := by
  intro h k g e; cases e; simpa [Instr.wf, Frame.wf] using h

theorem Shape.driveLockTake (p : Port) (tag : Byte) (rest : List Byte) : Shape.Statement (.driveLockTake p tag rest) := by
  intro h k g e; cases e; simp [Instr.wf] at h ⊢; omega

theorem Shape.driveLockRelease (p : Port) (tag : Byte) (rest : List Byte) : Shape.Statement (.driveLockRelease p tag rest) := by
  intro h k g e; cases e; simp [Instr.wf] at h ⊢; omega

theorem Shape.vehicle (f : Frame) : Shape.Statement (.vehicle f) := by
  intro h k g e; cases e; simpa [Instr.wf, Frame.wf] using h

theorem Shape.setClimate (f : Frame) : Shape.Statement (.setClimate f) := by
  intro h k g e; cases e; simpa [Instr.wf, Frame.wf] using h

theorem Shape.getClimate (f : Frame) : Shape.Statement (.getClimate f) := by
  intro h k g e; cases e; simpa [Instr.wf, Frame.wf] using h

theorem Shape.dumpNow (p : Port) (tag : Byte) (rest : List Byte) : Shape.Statement (.dumpNow p tag rest) := by
  intro h k g e; cases e; simp [Instr.wf] at h ⊢; omega

theorem Shape.dumpClose (p : Port) (tag : Byte) (rest : List Byte) : Shape.Statement (.dumpClose p tag rest) := by
  intro h k g e; cases e; simp [Instr.wf] at h ⊢; omega

theorem Shape.getTanks (f : Frame) : Shape.Statement (.getTanks f) := by
  intro h k g e; cases e; simpa [Instr.wf, Frame.wf] using h

theorem Shape.getSetting (f : Frame) : Shape.Statement (.getSetting f) := by
  intro h k g e; cases e; simpa [Instr.wf, Frame.wf] using h

theorem Shape.putSetting (f : Frame) : Shape.Statement (.putSetting f) := by
  intro h k g e; cases e; simpa [Instr.wf, Frame.wf] using h

theorem Shape.saveSettings (f : Frame) : Shape.Statement (.saveSettings f) := by
  intro h k g e; cases e; simpa [Instr.wf, Frame.wf] using h

theorem Shape.fetch (f : Frame) : Shape.Statement (.fetch f) := by
  intro h k g e; cases e; simpa [Instr.wf, Frame.wf] using h

theorem Shape.uartByteComplete (p : Port) (byte : Byte) (stopBit : Bool) : Shape.Statement (.uartByteComplete p byte stopBit) := by
  intro _ _ _ e; cases e

theorem Shape.timebaseWrap : Shape.Statement (.timebaseWrap) := by
  intro _ _ _ e; cases e

theorem Shape.vehicleAgeTick : Shape.Statement (.vehicleAgeTick) := by
  intro _ _ _ e; cases e

end Sys2Proof.Laws
end

