-- ==== Sys2Proof/Laws/Ports.lean ====
section
/-! SUPPORT. The taking of a frame and the port operations, each said once (R157 to R167). -/

namespace Sys2Proof.Machine

variable {s : State}

/-- A port in IDLE takes a frame whose payload fits LEN: the handler's state, and the answer of its reply (R159 to R161). -/
theorem takeRequest_of_canTake (h : Handler) (f : Frame) (hc : s.canTake f) :
    takeRequest h f.port f.tag f.payload s =
      setAnswer f.port (some (answerFrame f.tag (h f.port f.payload (setReceive f.port .hunt s)).2))
        (h f.port f.payload (setReceive f.port .hunt s)).1 := by
  have h1 : ¬ ((s.port f.port).answer.isSome = true ∨ 56 < f.payload.length) := by
    rw [hc.1]
    have := hc.2
    simp
    omega
  unfold takeRequest
  rw [if_neg h1]

/-- A handler that changes nothing leaves the port HUNT and ANSWERING, and the rest as it was (R164). -/
theorem takeRequest_of_unchanged (h : Handler) (f : Frame) (r : Reply) (hc : s.canTake f)
    (hh : h f.port f.payload (setReceive f.port .hunt s) = (setReceive f.port .hunt s, r)) :
    takeRequest h f.port f.tag f.payload s = s.answering f.port f.tag r := by
  rw [takeRequest_of_canTake h f hc, hh]
  rfl

/-- A port that is ANSWERING takes no frame (R160). -/
theorem takeRequest_of_answering (h : Handler) (p : Port) (tag : Byte) (payload : List Byte) (ha : (s.port p).answer.isSome = true) :
    takeRequest h p tag payload s = s := by
  unfold takeRequest
  rw [if_pos (.inl ha)]

/-- What stands at the port after the taking of a frame, beside what the handler did to its queue (R159 to R161). -/
theorem answering_port (p : Port) (tag : Byte) (r : Reply) :
    (s.answering p tag r).port p = { s.port p with receive := .hunt, answer := some (answerFrame tag r) } := by
  unfold State.answering
  simp

theorem answering_port_of_ne {p q : Port} (tag : Byte) (r : Reply) (h : q ≠ p) : (s.answering p tag r).port q = s.port q := by
  unfold State.answering
  rw [setAnswer_port_of_ne _ _ h, setReceive_port_of_ne _ _ h]

@[simp] theorem setReceive_settled (p : Port) (r : Receive) : (setReceive p r s).Settled ↔ s.Settled := by
  unfold State.Settled
  simp

@[simp] theorem setReceive_isReady (p : Port) (r : Receive) : (setReceive p r s).isReady = s.isReady := by
  unfold State.isReady
  simp

@[simp] theorem setReceive_load (p : Port) (r : Receive) (n : Fin 14) : (setReceive p r s).load n = s.load n := by simp [State.load]

@[simp] theorem setReceive_axis (p : Port) (r : Receive) (a : Axis) : (setReceive p r s).axis a = s.axis a := setPort_axis ..

@[simp] theorem setReceive_bridge (p : Port) (r : Receive) (a : Axis) : (setReceive p r s).bridge a = s.bridge a := setPort_bridge ..

@[simp] theorem setAnswer_load (p : Port) (x : Option (List Byte)) (n : Fin 14) : (setAnswer p x s).load n = s.load n := by simp [State.load]

@[simp] theorem setAnswer_axis (p : Port) (x : Option (List Byte)) (a : Axis) : (setAnswer p x s).axis a = s.axis a := setPort_axis ..

@[simp] theorem setAnswer_bridge (p : Port) (x : Option (List Byte)) (a : Axis) : (setAnswer p x s).bridge a = s.bridge a := setPort_bridge ..

/-- The receive state decides nothing about the loads. -/
theorem setReceive_freshFits {n : Fin 14} {t : Tier} (p : Port) (r : Receive) (h : s.freshFits n t) : (setReceive p r s).freshFits n t := by
  obtain ⟨h1, h2, h3, h4⟩ := h
  cases p <;> exact ⟨h1, h2, h3, h4⟩

/-! ## The step -/

/-- A step takes the command at the front of the queue. -/
theorem step_cons (c : Instr) (rest : List Instr) (h : s.pending = c :: rest) : step s = exec c { s with pending := rest } := by
  unfold step
  rw [h]

/-- A step on an empty queue. -/
theorem step_nil (h : s.pending = []) : step s = .next (idle s) := by
  unfold step
  rw [h]

/-- Every command has a next state. -/
theorem exec_next (c : Instr) : ∃ t, exec c s = .next t := by
  cases c
  case checkpointRequest cause => cases cause <;> exact ⟨_, rfl⟩
  case restWindowOpen => simp only [exec, execRestWindowOpen]; split <;> exact ⟨_, rfl⟩
  case restWindowClose => simp only [exec, execRestWindowClose]; split <;> (try split) <;> exact ⟨_, rfl⟩
  case fullSync => simp only [exec, execFullSync]; split <;> exact ⟨_, rfl⟩
  case pumpHoldCall hold set => cases hold <;> cases set <;> exact ⟨_, rfl⟩
  case overcurrentTrip a => simp only [exec, execOvercurrentTrip]; split <;> exact ⟨_, rfl⟩
  case unknownKind k f => simp only [exec, execUnknownKind]; split <;> exact ⟨_, rfl⟩
  all_goals exact ⟨_, rfl⟩

end Sys2Proof.Machine
end

