-- ==== Sys2Proof/Laws/Store.lean ====
section
/-! SUPPORT. What the stored record's check lets through. -/

namespace Sys2Proof.Machine

/-- Two little-endian bytes read back the number they were formed from (R179). -/
theorem readLe_le2 (v : Word16) : readLe (le2 (v.toNat : Int)) = v.toNat := by
  have h := v.isLt
  simp only [le2, readLe, BitVec.ofInt_natCast, BitVec.ofNat_toNat, BitVec.setWidth_eq, BitVec.toNat_setWidth, BitVec.toNat_ushiftRight,
    Nat.shiftRight_eq_div_pow]
  omega

/-- Covered bytes closed by their CRC-16 pass the check (R176, R181). -/
theorem readRecord_of_covered (l : List Byte) (h : l.length = coveredLength) :
    readRecord (.written (l ++ le2 ((crc16 l).toNat : Int))) = parseRecord l := by
  have hl : (le2 ((crc16 l).toNat : Int)).length = 2 := rfl
  simp [readRecord, ← h, hl, readLe_le2]

end Sys2Proof.Machine
end

