-- ==== Sys2Proof/Tests/Slice0.lean ====
section
/-! SUPPORT. The model's own tests: ill-formed commands are refused; small steps whose expected values are read from the spec; and for every statement of Obligations.lean that has hypotheses, states and operands that meet them. -/

namespace Sys2Proof.Tests

open Sys2Proof.Machine

set_option Elab.async false

/-! ## Helpers -/

/-- The state after a command. -/
def after (c : Instr) (s : State) : State :=
  match exec c s with
  | .next t => t
  | .fault _ => s
  | .refused _ => s

/-- A part that has finished its start-up from a bad record and waits. -/
def ready : State := { State.reset with sto := { State.reset.sto with phase := .ready } }

/-- A load record of the panel in a phase. -/
def load (level : Nat) (tier : Tier) (phase : Phase) : Load := ⟨.panel, level, tier, 5, none, phase⟩

/-- A granted record of an axis with its bridge state. -/
def driven (a : Axis) (b : BridgeState) (r : AxisRec) (s : State) : State :=
  ((s.setLoad (axisRecord a) (some ⟨.motion, 255, s.sto.live.tier[axisRecord a], 7, none, .granted 3 s.sto.live.declared[axisRecord a]⟩)).setBridge a
    ⟨b, b, 96, true⟩).setAxis a r

/-- An axis that runs its plan outward or inward for the panel. -/
def runner (g : Segment) (position : Nat) : AxisRec :=
  { AxisRec.reset with
    state := .running, position := position, known := true, plan := some (Plan.single g), source := some .panel
    countDir := some g.dir, lastPulse := true }

/-- STEP runs outward for the panel and holds the sense. -/
def stepRuns : State :=
  let s := driven .step .driveOut (runner (outwardEnd 240) 100) ready
  { s with mot := { s.mot with sense := some .step } }

/-- STEP is stopping with a continuation. -/
def stepStops (c : Continuation) : State :=
  let s := driven .step .brake { runner (outwardEnd 240) 100 with state := .stopping, continuation := some c, lastPulse := false } ready
  { s with mot := { s.mot with sense := some .step } }

/-- The awning jogs outward for the panel and holds the sense. -/
def awningJogs : State :=
  let s := driven .awning .driveOut { runner (outwardEnd 3600) 1800 with mode := .jog, jogPort := some .panel, jogLive := true } ready
  { s with mot := { s.mot with sense := some .awning } }

/-- Both axes stand stowed and IDLE. -/
def stowed : State :=
  (ready.setAxis .step { AxisRec.reset with known := true }).setAxis .awning { AxisRec.reset with known := true, position := 8 }

/-- The account is set. -/
def charged (s : State) : State := { s with chg := { s.chg with accountSet := true, content := 50000, soc := 500 } }

/-- A conversion of a fast channel is in flight. -/
def fastAt (ch : Fin 4) (s : State) : State := { s with scv := { s.scv with timers := true, fastGroup := some ch, inFlight := some .fast } }

/-- A conversion of an entry of the slow list is in flight. -/
def slowAt (k : Fin 8) (buffer : List (BitVec 12)) (s : State) : State :=
  { s with scv := { s.scv with timers := true, slowScan := some k, buffer := buffer, inFlight := some .slow } }

/-! ## Ill-formed commands -/

/-- A frame whose payload is longer than LEN allows. -/
def longFrame : Frame := ⟨.panel, 0, List.replicate 57 0⟩

theorem test_long_payload_is_ill_formed :
    [Instr.ident longFrame, .getEnergy longFrame, .getHistory longFrame, .setCharge longFrame, .getLoad longFrame, .getLoads longFrame,
      .setLoad longFrame, .runScene longFrame, .setScene longFrame, .getScene longFrame, .getMotion longFrame, .vehicle longFrame,
      .setClimate longFrame, .getClimate longFrame, .getTanks longFrame, .getSetting longFrame, .putSetting longFrame,
      .saveSettings longFrame, .fetch longFrame, .unknownKind 99 longFrame].all (fun i => !i.wf) = true := by decide
theorem test_known_kind_is_no_unknown_kind : (Instr.unknownKind 22 ⟨.panel, 0, []⟩).wf = false := by decide
theorem test_auto_off_of_internal_record_is_ill_formed : (Instr.autoOffExpiry 7).wf = false := by decide
theorem test_long_move_is_ill_formed :
    [Instr.moveExtend .panel 0 0 (List.replicate 55 0), .moveRetract .panel 0 0 (List.replicate 55 0), .moveGoto .panel 0 0 (List.replicate 55 0),
      .moveJogOut .panel 0 0 (List.replicate 55 0), .moveJogIn .panel 0 0 (List.replicate 55 0),
      .moveContinue .panel 0 0 (List.replicate 55 0), .moveStop .panel 0 0 (List.replicate 55 0)].all (fun i => !i.wf) = true := by decide
theorem test_long_action_is_ill_formed :
    [Instr.driveLockTake .chassis 0 (List.replicate 56 0), .driveLockRelease .chassis 0 (List.replicate 56 0),
      .dumpNow .panel 0 (List.replicate 56 0), .dumpClose .panel 0 (List.replicate 56 0)].all (fun i => !i.wf) = true := by decide
theorem test_longest_payload_is_well_formed : (Instr.fetch ⟨.panel, 0, List.replicate 56 0⟩).wf = true := by decide

/-! ## Resets, start-up and scanning (R4 to R16, R174 to R176) -/

theorem test_reset_spoils_a_write_under_way :
    (after .resetn { ready with sto := { ready.sto with writing := some [1], stored := .written [2] } }).sto.stored = .spoiled := by decide +kernel
theorem test_power_on_keeps_the_record :
    (after .powerOnReset { ready with sto := { ready.sto with stored := .written [2] } }).sto.stored = .written [2] := by decide +kernel
/-- 12.4 (2): after a bad record B is 1000 and the set mode FROST. -/
theorem test_bad_record_start :
    ((after (.storeReadComplete true) State.reset).ldc.budget, (after (.storeReadComplete true) State.reset).cwc.setMode) =
      (1000, HeatMode.frost) := by decide +kernel
theorem test_second_trigger_is_missed : (after .fastTriggerExpiry (fastAt 2 ready)).scv.missed = 1 := by decide +kernel
theorem test_slow_trigger_waits_for_fast_group : (after .slowTriggerExpiry (fastAt 2 ready)).scv.inFlight = some .fast := by decide +kernel
/-- R1: the value of HOUSE_V is five times its code. -/
theorem test_house_v_in_millivolts : (after (.fastConversionComplete 2442) (fastAt 1 (charged ready))).slotValue 1 = some 12210 := by decide +kernel
/-- 12.4 (3): the first HOUSE_V of 12,210 mV sets C to 50,800 and SoC to 508. -/
theorem test_start_estimate :
    ((after (.fastConversionComplete 2442) (fastAt 1 ready)).chg.content, (after (.fastConversionComplete 2442) (fastAt 1 ready)).ldc.soc) =
      (50800, some 508) := by decide +kernel
theorem test_slow_code_is_stored : (after (.slowConversionComplete 700) (slowAt 1 [9] ready)).scv.buffer = [9, 700] := by decide +kernel
/-- R10, R13: a T_OUTSIDE code below 60 keeps the reading and sets the fault. -/
theorem test_implausible_code :
    (after (.refchkComplete 4096) (slowAt 7 [2500, 700, 700, 540, 620, 59, 750] ready)).scv.slots[9] = ⟨none, true, false⟩ := by decide +kernel
/-- R11: a failing REFCHK sets the fault and discards every code. -/
theorem test_reference_fault :
    ((after (.refchkComplete 4013) (slowAt 7 [1, 2] ready)).scv.refFault, (after (.refchkComplete 4013) (slowAt 7 [1, 2] ready)).scv.buffer) =
      (true, []) := by decide +kernel

/-! ## Charge (R17 to R39) -/

theorem test_suspect_run_limit : (after .suspectRunLimit { ready with chg := { ready.chg with synced := true } }).chg.synced = false := by decide +kernel
theorem test_fifteenth_push_writes :
    (after .minutePush { ready with chg := { ready.chg with checkpointPushes := 14 } }).sto.writing.isSome = true := by decide +kernel
theorem test_hour_push_net : (after .hourPush { ready with chg := { ready.chg with minuteRing := [-7200, 100] } }).chg.hourRing.map HourEntry.net
    = [-1] := by decide +kernel
theorem test_checkpoint_held :
    (after (.checkpointRequest .criticalEntry) { ready with sto := { ready.sto with writing := some [] } }).sto.heldCheckpoint = true := by decide +kernel
theorem test_window_opens : (after .restWindowOpen ready).chg.rest = .averaging 0 0 0 := by decide +kernel
/-- R32: a mean of 12,210 mV reads 508 from the OCV table. -/
theorem test_window_closes :
    (after .restWindowClose (charged { ready with chg := { ready.chg with rest := .averaging 24421 2 0 } })).chg.content = 50800 := by decide +kernel
theorem test_full_sync_fills : (after .fullSync (charged ready)).chg.content = 100000 := by decide +kernel
theorem test_critical_gates_every_record :
    (after (.alarmChange true true) (ready.setLoad 0 (some (load 100 .comfort (.granted 1 20))))).load 0 =
      some (load 100 .comfort (.gated .critical)) := by decide +kernel
theorem test_supply_raises_budget : (after (.supplyChange true) ready).ldc.budget = 1100 := by decide +kernel

/-! ## Loads and drive (R42 to R92) -/

theorem test_auto_off_expires :
    (after (.autoOffExpiry 6) (ready.setLoad 6 (some ⟨.gateway, 255, .comfort, 5, some 1, .granted 1 70⟩))).gateway.queue =
      [⟨.loadExpired, 6, 0, 0⟩] := by decide +kernel
theorem test_fade_stops_at_target :
    (after .fadeStepExpiry { ready with out := { ready.out with target := ready.out.target.set 2 3 } }).out.level[2] = 3 := by decide +kernel
theorem test_soft_start_ends : ((after (.softStartExpiry .step) (ready.setBridge .step ⟨.driveOut, .driveOut, 240, true⟩)).bridge .step) =
    ⟨.driveOut, .driveOut, 255, false⟩ := by decide +kernel
theorem test_wrap_loads : (after .timebaseWrap { ready with out := { ready.out with waiting := ready.out.waiting.set 3 (some 9) } }).out.compare[3] = 9 := by
  decide +kernel
theorem test_set_load_is_queued_over_budget :
    ((after (.setLoad ⟨.panel, 7, [6, 1]⟩) { ready with ldc := { ready.ldc with budget := 69 } }).load 6).map Load.phase =
      some (.pending false) := by decide +kernel
/-- R46, log 50: a number that the counter has come round to is the oldest. -/
theorem test_order_age : orderAge 5 5 = 65536 ∧ orderAge 5 4 = 1 ∧ orderAge 5 6 = 65535 := by decide
/-- The awning waits at its target for its grant, with room for it alone. -/
def awningAtTarget : State :=
  let s := ready.setAxis .awning { runner ⟨.inward, 90, false⟩ 90 with state := .waitGrant, lastPulse := false }
  let u := s.setLoad 13 (some ⟨.motion, 255, .leisure, 0, none, .pending false⟩)
  { u with mot := { u.mot with sense := some .awning }, ldc := { u.ldc with budget := 120, stampCounter := 7 } }

/-- R51: the answer shows L1 PENDING, as its admission left it; MOT then releases the awning, and L1 is granted with a notice. -/
theorem test_set_load_answers_before_motion :
    let t := after (.setLoad ⟨.panel, 7, [1, 60]⟩) awningAtTarget
    t.panel.answer.map (fun l => (l.drop 4).take 3) = some [2, 1, 1] ∧ t.granted 1 = true ∧
      t.panel.queue.map Notice.kind = [.loadGranted, .loadGranted, .motionDone] := by decide +kernel
theorem test_set_load_takes_over :
    (after (.setLoad ⟨.panel, 7, [6, 1, 250]⟩) (ready.setLoad 6 (some ⟨.gateway, 255, .comfort, 5, some 9, .granted 1 70⟩))).load 6 =
      some ⟨.panel, 255, .comfort, 5, some 14400, .granted 1 70⟩ := by decide +kernel
theorem test_run_scene_grants :
    ((after (.runScene ⟨.panel, 7, [2]⟩) { ready with ldc := { ready.ldc with scenes := ready.ldc.scenes.set 2 [⟨1, 60⟩] } }).load 1).map Load.level =
      some 60 := by decide +kernel
theorem test_set_scene_refuses_internal_record :
    (after (.setScene ⟨.panel, 7, [0, 9, 1]⟩) ready).panel.answer = some (answerFrame 7 ⟨.badTarget, []⟩) := by decide +kernel
theorem test_pump_hold_gates :
    ((after (.pumpHoldCall .dryRun true) (ready.setLoad 6 (some (load 255 .comfort (.granted 1 70))))).load 6).map Load.phase =
      some (.gated .dryRun) := by decide +kernel

/-! ## Motion (R94 to R121) -/

theorem test_pulse_counts_inward : ((after (.hallPulse .awning 9) (ready.setAxis .awning (runner inwardEnd 0))).axis .awning).position = 0 := by
  decide +kernel
theorem test_pulse_in_idle_spoils : ((after (.hallPulse .step 9) stowed).axis .step).known = false := by decide +kernel
theorem test_inner_end : ((after (.lastPulseTimerExpiry .step) (ready.setAxis .step (runner inwardEnd 8))).axis .step).position = 0 := by decide +kernel
/-- R109: an inward stall at 120 backs off to 136. -/
theorem test_pinch_backs_off :
    ((after (.lastPulseTimerExpiry .step) (ready.setAxis .step (runner inwardEnd 120))).axis .step).backOff = some 136 := by decide +kernel
theorem test_overcurrent : ((after (.overcurrentTrip .step) stepRuns).axis .step).faultKind = some .overcurrent := by decide +kernel
theorem test_stopping_ends_in_idle : ((after (.stoppingTimerExpiry .step) (stepStops .next)).panel.queue) = [⟨.motionDone, 0, 0, 0⟩] := by
  decide +kernel
theorem test_stopping_ends_in_standby : ((after (.stoppingTimerExpiry .step) (stepStops .standby)).axis .step).state = .standby := by decide +kernel
theorem test_jog_deadline : ((after (.jogDeadlineExpiry .awning) awningJogs).axis .awning).continuation = some .standby := by decide +kernel
theorem test_standby_timer :
    (after (.standbyTimerExpiry .step) (ready.setAxis .step { runner inwardEnd 50 with state := .standby, standbyTimer := true })).panel.queue =
      [⟨.motionDone, 0, 1, 0⟩] := by decide +kernel
theorem test_stopn_halts : ((after .stopnActive stepRuns).axis .step).continuation = some (.halt .stopn) := by decide +kernel
theorem test_stopn_inactive_resumes_nothing : (after .stopnInactive (stepStops (.halt .stopn))).mot.step = (stepStops (.halt .stopn)).mot.step := by
  decide +kernel
theorem test_entry_open_extends : ((after .entryOpen stowed).axis .step).source = some .entry := by decide +kernel
theorem test_entry_close : (after .entryClose { ready with mot := { ready.mot with entryOpen := true } }).mot.entryOpen = false := by decide +kernel
theorem test_wind_pulse : (after .windPulse ready).mot.windCount = 1 := by decide +kernel
/-- R118: a count of 46 is above the limit of 45. -/
theorem test_wind_hold : (after .windWindowEnd { awningJogs with mot := { awningJogs.mot with windCount := 46 } }).mot.awning.continuation =
    some (.halt .wind) := by decide +kernel
theorem test_calm : (after .calmTimerExpiry { ready with mot := { ready.mot with windHold := true, calmTimer := true } }).mot.windHold = false := by
  decide +kernel
theorem test_move_extend_runs_homed :
    ((after (.moveExtend .panel 1 0 []) ready).axis .step).plan = some ⟨⟨.inward, 0, true⟩, some ⟨.outward, 240, true⟩, false⟩ := by decide +kernel
theorem test_move_extend_drives : ((after (.moveExtend .panel 1 0 []) stowed).bridge .step) = ⟨.driveOut, .driveOut, 96, true⟩ := by decide +kernel
theorem test_move_retract_stowed : (after (.moveRetract .gateway 1 0 []) stowed).mot.step = stowed.mot.step := by decide +kernel
theorem test_move_goto_clamps :
    ((after (.moveGoto .panel 1 1 [0xFF, 0xFF]) stowed).panel.answer.map (fun l => l.getD 4 0)) = some 1 := by decide +kernel
theorem test_jog_in_runs : ((after (.moveJogIn .panel 1 1 []) stowed).axis .awning).mode = .jog := by decide +kernel
theorem test_jog_out_refused_from_gateway :
    (after (.moveJogOut .gateway 1 1 []) stowed).gateway.answer = some (answerFrame 1 ⟨.noRight, []⟩) := by decide +kernel
/-- 12.2 (2): a CONTINUE under the lock is answered LOCKED. -/
theorem test_continue_locked :
    (after (.moveContinue .panel 1 1 []) { awningJogs with dlu := { awningJogs.dlu with lock := .pending } }).panel.answer =
      some (answerFrame 1 ⟨.locked, []⟩) := by decide +kernel
theorem test_stop_halts : ((after (.moveStop .chassis 1 0 []) stepRuns).axis .step).continuation = some (.halt .stop) := by decide +kernel
/-- R97: the CONTINUE of no jog is not outward, so that STOPN does not answer it: check 11 of R96 does. -/
theorem test_continue_of_no_jog :
    (after (.moveContinue .panel 1 0 []) { stepStops (.halt .stopn) with mot := { (stepStops (.halt .stopn)).mot with stopn := true } }).panel.answer =
      some (answerFrame 1 ⟨.badTarget, []⟩) := by decide +kernel
/-- R101, R111: a TARGET segment stored INWARD that a coast has passed is driven back OUTWARD, under STOPN too. -/
theorem test_coast_is_driven_back :
    let s := driven .step .coast { runner ⟨.inward, 90, false⟩ 85 with state := .stopping, continuation := some .wait } ready
    let u := { s with mot := { s.mot with sense := some .step, stopn := true } }
    ((after (.stoppingTimerExpiry .step) u).bridge .step).requested = .driveOut := by decide +kernel

/-! ## Lock, vehicle, climate (R122 to R155) -/

/-- 12.2 (1): TAKE over a jogging awning is answered QUEUED, and the lock plan replaces HALT. -/
theorem test_take_over_a_jog :
    ((after (.driveLockTake .chassis 1 []) awningJogs).dlu.lock, ((after (.driveLockTake .chassis 1 []) awningJogs).axis .awning).continuation) =
      (LockState.pending, some Continuation.newPlan) := by decide +kernel
theorem test_take_held : (after (.driveLockTake .chassis 1 []) stowed).dlu.lock = .held := by decide +kernel
theorem test_release : (after (.driveLockRelease .chassis 1 []) { stowed with dlu := { stowed.dlu with lock := .held } }).dlu.lock = .free := by
  decide +kernel
theorem test_moving_locks_itself : (after (.vehicle ⟨.chassis, 1, [0, 0, 1]⟩) stowed).panel.queue = [⟨.lockSelf, 0, 2, 0⟩] := by decide +kernel
theorem test_engine_raises_budget : (after (.vehicle ⟨.chassis, 1, [0, 1, 0]⟩) stowed).ldc.budget = 1250 := by decide +kernel
/-- The awning waits outward for its grant, with no budget for it. -/
def awningWaits : State :=
  let s := ready.setAxis .awning { runner (outwardEnd 3600) 1800 with state := .waitGrant, countDir := none, lastPulse := false }
  let u := s.setLoad 13 (some ⟨.motion, 255, .leisure, 7, none, .pending false⟩)
  { u with mot := { u.mot with sense := some .awning }, ldc := { u.ldc with budget := 0 } }

/-- R123: the budget of step (4) runs the awning OUT before the lock of step (6) stops it. -/
theorem test_grant_comes_before_the_lock :
    (after (.vehicle ⟨.chassis, 1, [0, 1, 1]⟩) awningWaits).mot.awning.continuation = some .newPlan := by decide +kernel
theorem test_stale : (after .stalenessTimerExpiry { stowed with dlu := { stowed.dlu with staleTimer := true } }).dlu.stale = true := by decide +kernel
theorem test_age : (after .vehicleAgeTick { ready with dlu := { ready.dlu with age := some 65535 } }).dlu.age = some 65535 := by decide +kernel

/-- A part whose cabin is cold in FROST. -/
def cold : State := { ready with cwc := { ready.cwc with minOff := some 1, tCabin := ⟨some 45, false⟩ } }

theorem test_minimum_off_then_heat : (after .minimumOffExpiry cold).granted outHeat = true := by decide +kernel

/-- HEAT is gated in FALLBACK. -/
def fallback : State :=
  let s := ready.setLoad outHeat (some ⟨.climate, 255, .comfort, 5, none, .gated .energy⟩)
  { s with cwc := { s.cwc with setMode := .comfort, effMode := .fallback, demand := true }, calls := [.fallback] }

theorem test_fallback_asks_essential : ((after .fallbackRequest fallback).load outHeat).map Load.tier = some .essential := by decide +kernel
theorem test_set_climate_clamps : (after (.setClimate ⟨.gateway, 1, [3, 99, 0]⟩) ready).cwc.target = 100 := by decide +kernel
/-- R138: SET_CLIMATE that keeps FALLBACK makes no request; HEAT stays GATED at its standing tier. -/
theorem test_fallback_kept_makes_no_request :
    (after (.setClimate ⟨.panel, 1, [2, 200, 0]⟩) { fallback with ldc := { fallback.ldc with gateOpen := ⟨true, false, false⟩ } }).load outHeat =
      fallback.load outHeat := by decide +kernel

/-- R143: HEAT's tier put to the value it has is no change; the fallback stays, also with the tier OPEN. A change ends it. -/
theorem test_tier_put_again :
    (after (.putSetting ⟨.panel, 1, [39, 1]⟩) fallback).cwc.effMode = .fallback ∧
      (after (.putSetting ⟨.panel, 1, [39, 2]⟩) fallback).cwc.effMode = .comfort := by decide +kernel

/-- R143: at the end of the fallback a standing HEAT is requested again at its own tier too, and that admission grants it where it fits. -/
theorem test_fallback_end_requests_again :
    (after (.putSetting ⟨.panel, 1, [39, 0]⟩)
      (fallback.setLoad outHeat (some ⟨.climate, 255, .essential, 5, none, .pending false⟩))).granted outHeat = true := by decide +kernel

/-- The valve is DUMPED and the water is warm. -/
def warm : State := { ready with cwc := { ready.cwc with dump := .dumped, temp := .fresh 40 }, ldc := { ready.ldc with dumpedHold := true } }

/-- 12.4 (5): CLOSE with the temperature in use at 40 is granted. -/
theorem test_close_is_granted : (after (.dumpClose .gateway 1 []) warm).cwc.dump = .closed := by decide +kernel
theorem test_dump_now_sets_hold : (after (.dumpNow .panel 1 []) ready).ldc.dumpedHold = true := by decide +kernel

/-! ## Ports, settings and the store (R156 to R181) -/

theorem test_bad_length_abandons : (after (.frameAbandoned .panel .badLength) (setReceive .panel .length ready)).panel.receive = .hunt := by
  decide +kernel
theorem test_gap_abandons : (after (.gapTimerExpiry .panel) (setReceive .panel (.kind 0 0) ready)).panel.receive = .hunt := by decide +kernel
theorem test_answer_completes : (after (.answerComplete .panel) (setAnswer .panel (some [1]) ready)).panel.answer = none := by decide +kernel
theorem test_link_reset_empties : (after (.linkReset .panel) (ready.setPort .panel ⟨.hunt, none, [⟨.loadShed, 0, 0, 0⟩], true⟩)).panel = .reset := by
  decide +kernel
theorem test_unknown_kind : (after (.unknownKind 23 ⟨.panel, 9, []⟩) ready).panel.answer = some (answerFrame 9 ⟨.unknownKind, []⟩) := by decide +kernel
theorem test_clock_wraps : (after .noticeClockTick { ready with noticeClock := 0xFFFF }).noticeClock = 0 := by decide +kernel
theorem test_held_checkpoint_starts :
    (after .writeComplete { ready with sto := { ready.sto with writing := some [1], heldCheckpoint := true } }).sto.writing.isSome = true := by decide +kernel
theorem test_ident_before_ready :
    (after (.ident ⟨.gateway, 1, []⟩) State.reset).gateway.answer.map List.length = some 18 := by decide +kernel
theorem test_energy_before_ready : (after (.getEnergy ⟨.chassis, 1, []⟩) State.reset).chassis.answer.map List.length = some 32 := by decide +kernel
theorem test_history_page : (after (.getHistory ⟨.panel, 1, [0, 0]⟩) ready).panel.answer = some (answerFrame 1 ⟨.ok, [0, 0, 0, 0, 0, 0]⟩) := by
  decide +kernel
theorem test_set_charge_clamps : (after (.setCharge ⟨.panel, 1, [0xFF, 0xFF]⟩) (charged ready)).chg.content = 100000 := by decide +kernel
theorem test_get_load_length : (after (.getLoad ⟨.panel, 1, [13]⟩) ready).panel.answer.map List.length = some 26 := by decide +kernel
theorem test_get_loads_length : (after (.getLoads ⟨.panel, 1, []⟩) ready).panel.answer.map List.length = some 39 := by decide +kernel
theorem test_get_scene_empty : (after (.getScene ⟨.panel, 1, [7]⟩) ready).panel.answer = some (answerFrame 1 ⟨.ok, []⟩) := by decide +kernel
theorem test_get_motion_length : (after (.getMotion ⟨.panel, 1, []⟩) ready).panel.answer.map List.length = some 44 := by decide +kernel
/-- R179: with no plan both segment targets of STEP are absent, 0xFFFF. -/
theorem test_get_motion_absent_targets :
    (after (.getMotion ⟨.panel, 1, []⟩) ready).panel.answer.map (fun l => (l.drop 11).take 4) = some [0xFF, 0xFF, 0xFF, 0xFF] := by decide +kernel
theorem test_get_climate_not_ready : (after (.getClimate ⟨.panel, 1, []⟩) State.reset).panel.answer = some (answerFrame 1 ⟨.notReady, []⟩) := by
  decide +kernel
theorem test_get_tanks_length : (after (.getTanks ⟨.panel, 1, [0]⟩) ready).panel.answer = some (answerFrame 1 ⟨.badLength, []⟩) := by decide +kernel
theorem test_get_setting_default :
    (after (.getSetting ⟨.panel, 1, [84]⟩) ready).panel.answer = some (answerFrame 1 ⟨.ok, [84, 16, 0, 0, 0, 16, 0, 0, 0]⟩) := by decide +kernel
/-- R172, 10 section 10.6: PUT_SETTING of id 16, value 1200, leaves the image at 1000. -/
theorem test_put_battery_limit :
    ((after (.putSetting ⟨.panel, 1, [16, 0xB0, 4, 0, 0]⟩) ready).sto.live.batteryLimit,
      (after (.putSetting ⟨.panel, 1, [16, 0xB0, 4, 0, 0]⟩) ready).sto.image.batteryLimit) = (1200, 1000) := by decide +kernel
theorem test_save_in_a_write :
    (after (.saveSettings ⟨.panel, 1, []⟩) { ready with sto := { ready.sto with writing := some [] } }).panel.answer =
      some (answerFrame 1 ⟨.notReady, []⟩) := by decide +kernel
theorem test_fetch_takes_four :
    (after (.fetch ⟨.panel, 1, []⟩) (ready.setPort .panel ⟨.hunt, none, List.replicate 5 ⟨.loadShed, 0, 0, 0⟩, true⟩)).panel.queue.length = 1 := by
  decide +kernel
theorem test_uart_sync : (after (.uartByteComplete .panel 0xC3 true) ready).panel.receive = .length := by decide +kernel
/-- R180: the frame C3 00 02 05 31 is a GET_ENERGY under tag 5. -/
theorem test_frame_bytes :
    (([0xC3, 0, 2, 5, 0x31] : List Byte).foldl (fun s b => after (.uartByteComplete .panel b true) s) ready) =
      after (.getEnergy ⟨.panel, 5, []⟩) ready := by decide +kernel
theorem test_no_word_spells_a_command : decodeTableWord 16 0 = none := by decide

/-! ## Witnesses

For each statement of Obligations.lean with hypotheses, states and operands that meet them, clause by clause, at the ends of their ranges. -/

/-! ### Scanning and start-up -/

theorem witness_IdleStepAdvancesTimebase (timebase : Fin 255) :
    let s := { ready with out := { ready.out with timebase := timebase.val } }
    s.pending = [] ∧ s.calls = [] := ⟨rfl, rfl⟩

theorem witness_ResetsLeaveEveryBlockReset :
    ready.sto.writing = none ∧ ({ ready with sto := { ready.sto with writing := some [] } } : State).sto.writing ≠ none := by decide +kernel

/-- A part at step (2) of start-up whose stored record is good. -/
def goodRecord : State := { State.reset with sto := { State.reset.sto with stored := .written (recordBytes (charged ready)) } }

theorem witness_StoreReadLoadsTheRecord_bad :
    State.reset.Settled ∧ State.reset.sto.phase = .reading ∧ State.reset.scv.fastGroup = none ∧ State.reset.scv.slowScan = none ∧
      State.reset.scv.inFlight = none ∧ readRecord State.reset.sto.stored = none ∧ State.reset.ldc.supply = false ∧
      State.reset.ldc.engine = false ∧ State.reset.ldc.budget = 1000 := ⟨rfl, by decide +kernel⟩
theorem witness_StoreReadLoadsTheRecord_good :
    goodRecord.Settled ∧ goodRecord.sto.phase = .reading ∧ goodRecord.scv.fastGroup = none ∧ goodRecord.scv.slowScan = none ∧
      goodRecord.scv.inFlight = none ∧ (readRecord goodRecord.sto.stored).isSome = true := by
  refine ⟨rfl, rfl, rfl, rfl, rfl, ?_⟩
  show (readRecord (.written (recordBytes (charged ready)))).isSome = true
  rw [recordBytes, readRecord_of_covered _ (by decide +kernel)]
  decide +kernel

theorem default_inRange : Settings.default.inRange := by
  intro i
  cases i with
  | tier => trivial
  | floor t => cases t <;> exact And.intro (by decide) (by decide)
  | declared n =>
    exact (by decide +kernel : ∀ n, (SettingId.declared n).range.1 ≤ (Settings.default.declared[n] : Int) ∧
      (Settings.default.declared[n] : Int) ≤ (SettingId.declared n).range.2) n
  | dimCap n =>
    exact (by decide +kernel : ∀ n, (SettingId.dimCap n).range.1 ≤ (Settings.default.dimCap[n] : Int) ∧
      (Settings.default.dimCap[n] : Int) ≤ (SettingId.dimCap n).range.2) n
  | fadeRate n =>
    exact (by decide +kernel : ∀ n, (SettingId.fadeRate n).range.1 ≤ (Settings.default.fadeRate[n] : Int) ∧
      (Settings.default.fadeRate[n] : Int) ≤ (SettingId.fadeRate n).range.2) n
  | travel a => cases a <;> exact And.intro (by decide) (by decide)
  | trip a => cases a <;> exact And.intro (by decide) (by decide)
  | tankTable t => cases t <;> exact And.intro (by decide) (by decide)
  | ocvEnable => trivial
  | autoStep => trivial
  | _ => exact And.intro (by decide) (by decide)

/-- The heating target at an end of its range, the account full, and a scene of eight entries. -/
def recorded (target : Int) : State :=
  { charged ready with
    chg := { (charged ready).chg with content := 800000 }
    cwc := { ready.cwc with target := target, setMode := .comfort }
    sto := { ready.sto with imageScenes := ready.sto.imageScenes.set 7 (List.replicate 8 ⟨13, 255⟩) } }

theorem witness_StoredRecordReadsBack (target : Int) (h : target = 100 ∨ target = 280) :
    let s := recorded target
    s.sto.image.inRange ∧ s.sto.image.tier[8] = .essential ∧ s.sto.image.tier[9] = .essential ∧
      (∀ k : Fin 8, (s.sto.imageScenes[k]).length ≤ 8) ∧ s.cwc.setMode ≠ .fallback ∧ 100 ≤ s.cwc.target ∧ s.cwc.target ≤ 280 ∧
      s.chg.content ≤ 800000 := by
  refine ⟨default_inRange, ?_⟩
  obtain rfl | rfl := h <;> decide +kernel

theorem witness_FastTriggerStartsOrDrops :
    let s := { fastAt 3 ready with scv := { (fastAt 3 ready).scv with missed := 255 } }
    let u := { ready with scv := { ready.scv with timers := true } }
    u.scv.timers = true ∧ u.scv.fastGroup = none ∧ s.scv.timers = true ∧ s.scv.fastGroup ≠ none := by decide +kernel
theorem witness_SlowTriggerStartsOrOverruns :
    let u := { ready with scv := { ready.scv with timers := true } }
    u.scv.timers = true ∧ u.scv.slowScan = none ∧ (slowAt 7 [] ready).scv.timers = true ∧ (slowAt 7 [] ready).scv.slowScan ≠ none := by
  decide +kernel
theorem witness_SlowConversionStoresCode (k : Fin 8) (h : k = 0 ∨ k = 6) :
    (slowAt k [] ready).scv.inFlight = some .slow ∧ (slowAt k [] ready).scv.slowScan = some k ∧ k ≠ 7 := by
  obtain rfl | rfl := h <;> decide +kernel
theorem witness_FastConversionWritesItsSlot (ch : Fin 4) :
    (fastAt ch ready).scv.inFlight = some .fast ∧ (fastAt ch ready).scv.fastGroup = some ch := ⟨rfl, rfl⟩

/-- Codes at the ends of the plausible range. -/
def scanCodes : Vector (BitVec 12) 7 := #v[2500, 59, 60, 4035, 4036, 0, 4095]

theorem witness_PassingRefchkWritesSlowSlots (result : BitVec 13) (h : result = 4014 ∨ result = 4178) :
    let s := slowAt 7 scanCodes.toList ready
    s.scv.inFlight = some .slow ∧ s.scv.slowScan = some 7 ∧ s.scv.buffer = scanCodes.toList ∧ 4014 ≤ result.toNat ∧ result.toNat ≤ 4178 := by
  obtain rfl | rfl := h <;> decide +kernel
/-- A level below the fresh low, at it, and three above it; a grey level at the full setting, ten below it, and between; for a part with armed marks. -/
theorem witness_PassingRefchkWritesSlowSlots_levels :
    ready.cwc.freeze = false ∧ plausible 60 = true ∧ plausible 4035 = true ∧ plausible 59 = false ∧ plausible 4036 = false ∧
      levelFormed .fresh 400 ready < ready.sto.live.freshLow ∧ levelFormed .fresh 575 ready = ready.sto.live.freshLow ∧
      ready.sto.live.freshLow + 3 = levelFormed .fresh 680 ready ∧ ready.cwc.freshLowArmed = true ∧ ready.cwc.faultArmed = true ∧
      ready.cwc.fresh.fault = false ∧ levelFormed .grey 3550 ready = ready.sto.live.greyFull ∧
      levelFormed .grey 3200 ready + 10 = ready.sto.live.greyFull ∧ levelFormed .grey 3515 ready + 1 = ready.sto.live.greyFull ∧
      ready.cwc.greyFullArmed = true := by decide +kernel
/-- The same under a freeze, and with a fault that stands. -/
theorem witness_PassingRefchkWritesSlowSlots_frozen :
    let s := { ready with cwc := { ready.cwc with freeze := true, fresh := { ready.cwc.fresh with fault := true } } }
    s.cwc.freeze = true ∧ s.cwc.fresh.fault = true := ⟨rfl, rfl⟩
/-- STARTUP ends closed one tenth above the threshold with its margin, dumps at it, and waits without a temperature. -/
theorem witness_PassingRefchkWritesSlowSlots_valve :
    let s := { ready with cwc := { ready.cwc with storedClosed := true } }
    let t := fun code : BitVec 12 => (after (.refchkComplete 4096) (slowAt 7 [2500, 700, 700, code, 700, 0, 700] s)).cwc
    s.cwc.dump = .startup ∧ s.cwc.storedClosed = true ∧ ready.cwc.storedClosed = false ∧ s.sto.live.dumpThreshold + 10 = 20 ∧
      (t 521).temp.value = some 21 ∧ (t 520).temp.value = some 20 ∧ (t 0).temp.value = none := by decide +kernel
/-- A cold tank with its valve closed, and one that is dumped; a pad at the ends of its duty. -/
theorem witness_PassingRefchkWritesSlowSlots_pad :
    let s := { ready with cwc := { ready.cwc with dump := .closed } }
    let t := fun code : BitVec 12 => (after (.refchkComplete 4096) (slowAt 7 [2500, 700, 700, code, 700, 0, 700] s)).cwc
    s.cwc.dump ≠ .startup ∧ ({ ready with cwc := { ready.cwc with dump := .dumped } } : State).cwc.dump = .dumped ∧
      (t 550).padDuty = 0 ∧ (t 549).padDuty = 4 ∧ (t 549).dump = .closed := by decide +kernel
/-- A reference fault ends, a channel's fault begins at 59 and another's ends at 60. -/
theorem witness_PassingRefchkWritesSlowSlots_notices :
    let s := slowAt 7 scanCodes.toList { ready with
      scv := { ready.scv with refFault := true, slots := ready.scv.slots.set 6 ⟨none, true, false⟩ } }
    s.scv.refFault = true ∧ s.scv.slots[5].fault = plausible scanCodes[1] ∧ plausible scanCodes[1] = false ∧
      s.scv.slots[6].fault = plausible scanCodes[2] ∧ plausible scanCodes[2] = true ∧ plausible scanCodes[5] = false ∧
      plausible scanCodes[6] = false := by decide +kernel
theorem witness_FailingRefchkDiscardsScan (result : BitVec 13) (h : result = 4013 ∨ result = 4179) :
    let s := slowAt 7 scanCodes.toList ready
    s.Settled ∧ s.scv.inFlight = some .slow ∧ s.scv.slowScan = some 7 ∧ (result.toNat < 4014 ∨ 4178 < result.toNat) :=
  ⟨rfl, by obtain rfl | rfl := h <;> decide +kernel⟩

/-! ### Charge -/

/-- A HOUSE_I sample comes next, with a content and a residue, one sample before the period's last. -/
def integrating (content : Nat) (residue : Int) : State :=
  fastAt 0 { ready with chg := { ready.chg with
    accountSet := true, content := content, residue := residue, rest := .idle, periodCount := 5998 } }

/-- The current and the residue after a sample, as the statement forms them. -/
def residueAfter (code : BitVec 12) (s : State) : Int :=
  let d := clampInt (-2048) 2047 ((code.toNat : Int) - 2048 - s.sto.live.zeroOffset)
  s.chg.residue + (if 0 < d then d * s.sto.live.eta else d * 256)

theorem witness_HouseCurrentIsIntegrated (content : Nat) (residue : Int) :
    let s := integrating content residue
    s.scv.inFlight = some .fast ∧ s.scv.fastGroup = some 0 ∧ s.scv.refFault = false ∧ s.scv.missed = 0 ∧ s.chg.accountSet = true ∧
      s.chg.rest = .idle ∧ s.chg.supply = false ∧ s.chg.periodCount + 1 < 6000 := ⟨rfl, rfl, rfl, rfl, rfl, rfl, rfl, show 5998 + 1 < 6000 by decide⟩
/-- The residue ends one below the carry, at it with room and with none, one above the borrow, at it with charge and with none. -/
theorem witness_HouseCurrentIsIntegrated_clauses :
    residueAfter 4095 (integrating 5 424178) = 921599 ∧ residueAfter 4095 (integrating 99999 424179) = 921600 ∧
      99999 + 1 ≤ (integrating 99999 424179).sto.live.cap ∧ residueAfter 4095 (integrating 100000 424179) = 921600 ∧
      (integrating 100000 424179).sto.live.cap < 100000 + 1 ∧ residueAfter 0 (integrating 5 (-397311)) = -921599 ∧
      residueAfter 0 (integrating 1 (-397312)) = -921600 ∧ residueAfter 0 (integrating 0 (-397312)) = -921600 := by decide +kernel

/-- A sample that carries missed periods, at most the 255 that are counted, short of the minute. -/
theorem witness_HouseCurrentIsIntegrated_missed (missed : Nat) (h : missed ≤ 255) (content : Nat) (residue : Int) :
    let s := fastAt 0 { ready with
      chg := { (integrating content residue).chg with periodCount := 5743 }, scv := { ready.scv with missed := missed } }
    s.scv.inFlight = some .fast ∧ s.scv.fastGroup = some 0 ∧ s.scv.refFault = false ∧ s.chg.accountSet = true ∧ s.chg.rest = .idle ∧
      s.chg.supply = false ∧ s.chg.periodCount + (s.scv.missed + 1) < 6000 :=
  ⟨rfl, rfl, rfl, rfl, rfl, rfl, by show 5743 + (missed + 1) < 6000; omega⟩
/-- A suspect sample, with a suspect run about its limit, that ends the minute or not. -/
theorem witness_HouseCurrentIsIntegrated_suspect (run missed : Nat) :
    let s := fastAt 0 { ready with
      chg := { ready.chg with periodCount := 5999, suspectRun := run, pushesSinceHour := 58, checkpointPushes := 13 }
      scv := { ready.scv with refFault := true, missed := missed } }
    s.Settled ∧ s.scv.inFlight = some .fast ∧ s.scv.fastGroup = some 0 ∧ s.scv.refFault = true ∧ s.chg.periodCount < 6000 ∧
      6000 ≤ s.chg.periodCount + (s.scv.missed + 1) ∧ s.chg.suspectRun = run ∧ s.chg.pushesSinceHour + 1 < 60 ∧
      s.chg.checkpointPushes + 1 < 15 ∧ ready.chg.periodCount + 5999 < 6000 :=
  ⟨rfl, rfl, rfl, rfl, by show 5999 < 6000; omega, by show 6000 ≤ 5999 + (missed + 1); omega, rfl,
    show 58 + 1 < 60 by decide, show 13 + 1 < 15 by decide, show 0 + 5999 < 6000 by decide⟩

theorem witness_AlarmsCountInSuccession (k : Nat) :
    (∀ v ∈ List.replicate k 10999, v < 11000) ∧ (∀ v ∈ List.replicate k 11600, 11000 + 600 ≤ v) ∧
      ∀ j, (List.replicate j 11600).length = j := by
  refine ⟨fun v hv => ?_, fun v hv => ?_, fun j => List.length_replicate ..⟩
  all_goals rw [List.eq_of_mem_replicate hv]
  decide
/-- A HOUSE_V value comes next, with an alarm inactive or active and its count one short of the change or at it; 10,995 and 11,000 mV, 11,595 and
11,600 mV lie on the two sides of LVD's thresholds. -/
theorem witness_AlarmsCountInSuccession_houseV (active : Bool) (count : Nat) :
    let s := fastAt 1 { charged ready with chg := { (charged ready).chg with lvd := active, lvdCount := count } }
    s.scv.inFlight = some .fast ∧ s.scv.fastGroup = some 1 ∧ s.chg.lvd = active ∧ s.chg.lvdCount = count ∧ s.chg.accountSet = true ∧
      (2199 : BitVec 12).toNat * 5 + 5 = s.sto.live.lvdVoltage ∧ (2200 : BitVec 12).toNat * 5 = s.sto.live.lvdVoltage ∧
      (2320 : BitVec 12).toNat * 5 = s.sto.live.lvdVoltage + 600 := ⟨rfl, rfl, rfl, rfl, rfl, rfl, rfl, rfl⟩

theorem witness_MinutePushAppendsEntry :
    let s := { ready with chg := { ready.chg with pushesSinceHour := 58, checkpointPushes := 13 } }
    s.chg.pushesSinceHour + 1 < 60 ∧ s.chg.checkpointPushes + 1 < 15 := by decide +kernel
theorem witness_SuspectLimitAndRestWindow (n : Nat) :
    ({ ready with chg := { ready.chg with rest := .timing n } } : State).chg.rest = .timing n := rfl

/-- A sample comes with the rest state, the charger, the full-sync timer and HOUSE_V as given. -/
def judging (rest : Rest) (supply : Bool) (fullTimer : Nat) (houseV : Int) : State :=
  let s := integrating 50000 0
  { s with
    chg := { s.chg with rest := rest, supply := supply, fullTimer := fullTimer }
    scv := { s.scv with slots := s.scv.slots.set 1 ⟨some (2840, houseV), false, false⟩ } }

theorem periodRoom : (integrating 50000 0).chg.periodCount + ((integrating 50000 0).scv.missed + 1) < 6000 := by decide +kernel

theorem witness_HouseCurrentIsIntegrated_unset :
    let s := { integrating 0 0 with chg := { (integrating 0 0).chg with accountSet := false } }
    s.scv.inFlight = some .fast ∧ s.scv.fastGroup = some 0 ∧ s.scv.refFault = false ∧ s.chg.periodCount + (s.scv.missed + 1) < 6000 ∧
      s.chg.accountSet = false ∧ s.Settled := ⟨rfl, rfl, rfl, by decide +kernel, rfl, rfl⟩
/-- The rest threshold is 3 and the period 720,000 counts: a sample at it and above it, the last timer value before it and the one that reaches it. -/
theorem witness_HouseCurrentIsIntegrated_timing (timer : Nat) (_ : timer = 719998 ∨ timer = 719999) :
    let s := judging (.timing timer) false 0 14200
    s.scv.inFlight = some .fast ∧ s.scv.fastGroup = some 0 ∧ s.scv.refFault = false ∧ s.chg.periodCount + (s.scv.missed + 1) < 6000 ∧
      s.chg.accountSet = true ∧ s.chg.supply = false ∧ s.chg.rest = .timing timer ∧
      (correctedDifference s.sto.live.zeroOffset 2051).natAbs = s.sto.live.restThreshold ∧
      (correctedDifference s.sto.live.zeroOffset 2052).natAbs = s.sto.live.restThreshold + 1 ∧ s.sto.live.restPeriod * 6000 = 719999 + 1 ∧
      s.scv.missed = 0 := ⟨rfl, rfl, rfl, periodRoom, rfl, rfl, rfl,
    (by decide +kernel : (correctedDifference Settings.default.zeroOffset 2051).natAbs = Settings.default.restThreshold),
    (by decide +kernel : (correctedDifference Settings.default.zeroOffset 2052).natAbs = Settings.default.restThreshold + 1),
    (by decide : Settings.default.restPeriod * 6000 = 719999 + 1), rfl⟩
/-- The window's last period but one, and its last. -/
theorem witness_HouseCurrentIsIntegrated_averaging (periods : Nat) (_ : periods = 1598 ∨ periods = 1599) :
    let s := judging (.averaging 12450 1 periods) false 0 14200
    s.scv.inFlight = some .fast ∧ s.scv.fastGroup = some 0 ∧ s.scv.refFault = false ∧ s.chg.periodCount + (s.scv.missed + 1) < 6000 ∧
      s.chg.accountSet = true ∧ s.chg.supply = false ∧ s.chg.rest = .averaging 12450 1 periods ∧ 0 < 1 ∧ s.scv.missed = 0 :=
  ⟨rfl, rfl, rfl, periodRoom, rfl, rfl, rfl, by decide, rfl⟩
/-- The charger present: d at 0, at the tail current, below and above; HOUSE_V at the full voltage and below; the timer one short of its end, and at it. -/
theorem witness_HouseCurrentIsIntegrated_full (fullTimer : Nat) (_ : fullTimer = 29998 ∨ fullTimer = 29999) (houseV : Int) :
    let s := judging .idle true fullTimer houseV
    s.scv.inFlight = some .fast ∧ s.scv.fastGroup = some 0 ∧ s.scv.refFault = false ∧ s.chg.periodCount + (s.scv.missed + 1) < 6000 ∧
      s.chg.accountSet = true ∧ s.chg.rest = .idle ∧ s.chg.supply = true ∧ s.chg.fullArmed = true ∧ s.chg.fullTimer = fullTimer ∧
      s.slotValue 1 = some houseV ∧ s.sto.live.fullVoltage = 14200 ∧ correctedDifference s.sto.live.zeroOffset 2048 = 0 ∧
      correctedDifference s.sto.live.zeroOffset 2047 = -1 ∧ correctedDifference s.sto.live.zeroOffset 2068 = s.sto.live.tailCurrent ∧
      correctedDifference s.sto.live.zeroOffset 2069 = s.sto.live.tailCurrent + 1 :=
  ⟨rfl, rfl, rfl, periodRoom, rfl, rfl, rfl, rfl, rfl, rfl, rfl, (by decide +kernel : correctedDifference Settings.default.zeroOffset 2048 = 0),
    (by decide +kernel : correctedDifference Settings.default.zeroOffset 2047 = -1),
    (by decide +kernel : correctedDifference Settings.default.zeroOffset 2068 = Settings.default.tailCurrent),
    (by decide +kernel : correctedDifference Settings.default.zeroOffset 2069 = Settings.default.tailCurrent + 1)⟩

/-- The account is set and the averaging window holds a sum over a count. -/
def averaging (sum count : Nat) : State := charged { ready with chg := { ready.chg with rest := .averaging sum count 0 } }

theorem witness_RestWindowCloseSetsAccount (sum : Nat) (count : Nat) (h : 0 < count) :
    (averaging sum count).chg.rest = .averaging sum count 0 ∧ 0 < count ∧ (averaging sum count).chg.accountSet = true := ⟨rfl, h, rfl⟩
theorem witness_FullSyncFillsAccount : (charged ready).chg.fullArmed = true ∧ (charged ready).chg.accountSet = true := by decide +kernel
/-- AUX2 is GATED while the gate of LEISURE is closed, AUX1 GRANTED, and the budget is as given. -/
def socGates (budget : Nat) : State :=
  let s := charged ((ready.setLoad 11 (some (load 255 .leisure (.gated .energy)))).setLoad 10 (some (load 255 .comfort (.granted 1 50))))
  { s with ldc := { s.ldc with gateOpen := ⟨true, true, false⟩, budget := budget } }

/-- The SoC rises to 1000: AUX2 fits with a budget of 80, and waits with 79. -/
theorem witness_FullSyncFillsAccount_records (budget : Nat) (h : budget = 80 ∨ budget = 79) :
    let s := socGates budget
    let t := after .fullSync s
    s.Settled ∧ s.mastersOnly ∧ t.chg.soc ≠ s.chg.soc ∧ s.load 11 = some (load 255 .leisure (.gated .energy)) ∧
      t.holdingReason 11 .leisure = none ∧ t.holdingReason 10 .comfort = none ∧ t.ldc.budget = budget ∧
      ((allRecords.filter (s.notHeld t)).map s.currentOf).sum = 80 ∧ s.grantedSum + s.sto.live.declared[11] = 80 ∧
      ∀ m, m ≠ (11 : Fin 14) → s.load m ≠ none → s.granted m = true ∧ s.notHeld t m = true := by
  obtain rfl | rfl := h <;> exact ⟨rfl, by unfold State.mastersOnly; decide +kernel, by decide +kernel⟩
/-- The SoC falls to 0, and AUX1 is held. -/
theorem witness_RestWindowCloseSetsAccount_records :
    let s := { socGates 80 with chg := { (socGates 80).chg with rest := .averaging 11650 1 0 } }
    let t := after .restWindowClose s
    s.Settled ∧ s.mastersOnly ∧ t.chg.soc ≠ s.chg.soc ∧ s.load 10 = some (load 255 .comfort (.granted 1 50)) ∧
      t.holdingReason 10 .comfort = some .energy ∧ t.holdingReason 11 .leisure = some .energy :=
  ⟨rfl, by unfold State.mastersOnly; decide +kernel, by decide +kernel⟩
/-- The gate of LEISURE opens at 520 and stays closed at 519. -/
theorem witness_SetChargeSetsAccount_records :
    let t := fun v : Word16 => after (.setCharge ⟨.panel, 1, le2 v.toNat⟩) (socGates 80)
    (socGates 80).Settled ∧ (socGates 80).mastersOnly ∧ (t 520).chg.soc ≠ (socGates 80).chg.soc ∧ (t 520).holdingReason 11 .leisure = none ∧
      (t 519).chg.soc ≠ (socGates 80).chg.soc ∧ (t 519).holdingReason 11 .leisure = some .energy :=
  ⟨rfl, by unfold State.mastersOnly; decide +kernel, by decide +kernel⟩

/-- An alarm enters CRITICAL with LVD, LVD alone, and ends again. -/
theorem witness_AlarmChangeReachesLdc :
    let s := { ready with chg := { ready.chg with lvd := true, critical := true } }
    ¬ (ready.chg.lvd = true ∧ ready.chg.critical = true) ∧ ¬ (ready.chg.lvd = true ∧ ready.chg.critical = false) ∧
      ¬ (s.chg.lvd = false ∧ s.chg.critical = false) := by decide +kernel
/-- LVD holds AUX1 and leaves PUMP; its end restores a record that it held. -/
theorem witness_AlarmChangeReachesLdc_records :
    let s := (ready.setLoad 10 (some (load 255 .comfort (.granted 1 50)))).setLoad 6 (some (load 255 .essential (.granted 2 70)))
    let t := after (.alarmChange true false) s
    s.Settled ∧ s.mastersOnly ∧ ¬ (s.chg.lvd = true ∧ s.chg.critical = false) ∧ t.holdingReason 10 .comfort = some .voltage ∧
      t.holdingReason 6 .essential = none ∧ (after (.alarmChange false false) t).holdingReason 10 .comfort = none ∧
      ((allRecords.filter (s.notHeld t)).map s.currentOf).sum ≤ t.ldc.budget :=
  ⟨rfl, by unfold State.mastersOnly; decide +kernel, by decide +kernel⟩

/-- The record of STEP, the only one, as `driven` gives it. -/
def stepLoad : Load := ⟨.motion, 255, Settings.default.tier[12], 7, none, .granted 3 80⟩

/-- STEP with the only record, GRANTED, in a state and a mode, with a continuation. -/
def stepAlone (st : AxisState) (mode : Mode) (c : Option Continuation) : State :=
  stepRuns.setAxis .step { stepRuns.axis .step with state := st, mode := mode, continuation := c }

theorem stepAlone_onlyGranted (st : AxisState) (mode : Mode) (c : Option Continuation) : OnlyGranted .step stepLoad (stepAlone st mode c) where
  record := rfl
  granted := rfl
  alone := (by decide +kernel : ∀ n, n ≠ axisRecord .step → stepRuns.load n = none)
  noWaiter := fun b h => by
    cases b with
    | step => exact absurd rfl h
    | awning => exact (by decide : AxisState.idle ≠ AxisState.waitMotor)
  notLock := (by decide : some Source.panel ≠ some Source.lock)

theorem witness_AlarmChangeReachesLdc_grantLost (st : AxisState) (mode : Mode) (c : Option Continuation) :
    let s := stepAlone st mode c
    s.Settled ∧ OnlyGranted .step stepLoad s ∧ (s.axis .step).state = st ∧ (s.axis .step).mode = mode ∧
      ¬ (s.chg.lvd = true ∧ s.chg.critical = true) ∧
      ({ s with ldc := { s.ldc with lvd := true, critical := true } } : State).holdingReason 12 stepLoad.tier = some .critical :=
  ⟨rfl, stepAlone_onlyGranted _ _ _, rfl, rfl, fun h => Bool.noConfusion h.1, rfl⟩
theorem witness_SupplyChangeMovesBudget :
    let s := { ready with chg := { ready.chg with supply := true }, ldc := { ready.ldc with supply := true } }
    ready.chg.supply ≠ true ∧ ready.ldc.supply = ready.chg.supply ∧ s.chg.supply ≠ false ∧ s.ldc.supply = s.chg.supply := by decide +kernel
/-- The budget falls by one below the current of STEP's record. -/
theorem witness_SupplyChangeMovesBudget_grantLost (st : AxisState) (mode : Mode) :
    let u := stepAlone st mode none
    let s := { u with
      chg := { u.chg with supply := true }, ldc := { u.ldc with supply := true, budget := 80 }
      sto := { u.sto with live := { u.sto.live with batteryLimit := 79 } } }
    s.chg.supply = true ∧ s.ldc.supply = true ∧ s.Settled ∧ s.InBudget ∧ OnlyGranted .step stepLoad s ∧ s.grantedSum = 80 ∧
      s.sto.live.declared[axisRecord .step] = 80 ∧
      s.sto.live.batteryLimit + (if s.ldc.engine then s.sto.live.alternatorAllowance else 0) = 79 := by
  have g : OnlyGranted .step stepLoad (stepAlone st mode none) := stepAlone_onlyGranted st mode none
  have e : (stepAlone st mode none).grantedSum = stepRuns.grantedSum := rfl
  have k : stepRuns.grantedSum = 80 := by decide +kernel
  exact ⟨rfl, rfl, rfl, (Nat.le_of_eq (e.trans k) : _ ≤ 80), ⟨g.record, g.granted, g.alone, g.noWaiter, g.notLock⟩, e.trans k, rfl, rfl⟩
/-- The last value but one and the last in succession, from absent at 13.2 V and from present below 12.8 V. -/
theorem witness_SupplyChangeMovesBudget_counted (count : Nat) (_ : count = 198 ∨ count = 199) (supply : Bool) :
    let s := fastAt 3 { ready with chg := { ready.chg with supply := supply, supplyCount := count }, ldc := { ready.ldc with supply := supply } }
    s.Settled ∧ s.scv.inFlight = some .fast ∧ s.scv.fastGroup = some 3 ∧ s.chg.supply = supply ∧ s.chg.supplyCount = count ∧
      s.ldc.supply = s.chg.supply ∧ (2640 : BitVec 12).toNat * 5 = 13200 ∧ (2639 : BitVec 12).toNat * 5 < 13200 ∧
      (2560 : BitVec 12).toNat * 5 = 12800 ∧ (2559 : BitVec 12).toNat * 5 < 12800 :=
  ⟨rfl, rfl, rfl, rfl, rfl, rfl, by decide, by decide, by decide, by decide⟩

/-- Two LEISURE grants, the newer one of AUX2, beside PUMP and L0, with the currents given. -/
def grants (aux2 l1 l0 : Nat) (tier : Tier) (s : State) : State :=
  let u := (s.setLoad 11 (some (load 255 .leisure (.granted 2 aux2)))).setLoad 1 (some (load 60 .leisure (.granted 1 l1)))
  let v := (u.setLoad 6 (some (load 255 tier (.granted 3 70)))).setLoad 0 (some (load 60 tier (.granted 0 l0)))
  { v with ldc := { v.ldc with grantCounter := 4 } }

/-- G is at B, 1100; the fall to 1000 sheds AUX2 and L1, which leave exactly 1000. -/
theorem witness_SupplyChangeMovesBudget_sheds :
    let s := grants 40 60 930 .comfort { ready with
      chg := { ready.chg with supply := true }, ldc := { ready.ldc with supply := true, budget := 1100 } }
    s.chg.supply = true ∧ s.ldc.supply = true ∧ s.Settled ∧ s.InBudget ∧ s.pendingList = [] ∧ (∀ n ∈ [11, 1], plainRecord n = true) ∧
      s.ShedFirst s.granted [11, 1] ∧ s.grantedSum = s.sto.live.batteryLimit + s.countedSum [11, 1] ∧ s.ldc.engine = false ∧
      s.sto.live.batteryLimit + s.countedSum [11] < s.grantedSum ∧
      ∀ n ∈ ([11, 1] : List (Fin 14)), s.sto.live.batteryLimit + s.countedSum [11, 1] < s.grantedSum + s.sto.live.declared[n] :=
  ⟨rfl, rfl, rfl, by unfold State.InBudget; decide +kernel, by decide +kernel, by decide +kernel,
    ⟨by decide +kernel, by decide +kernel, by decide +kernel⟩, by decide +kernel⟩

/-- HEAT waits at ESSENTIAL; the rise to 1010 leaves it out by its current but for what the LEISURE grants would free. -/
def heatWaits (l0 : Nat) (tier : Tier) : State :=
  grants 40 30 l0 tier ({ ready with sto := { ready.sto with live := { ready.sto.live with shoreAllowance := 10 } } }.setLoad 7
    (some ⟨.climate, 255, .essential, 6, none, .pending false⟩))

/-- AUX2 and L1 free exactly what HEAT needs. -/
theorem witness_SupplyChangeMovesBudget_preempts :
    let s := heatWaits 860 .comfort
    s.chg.supply = false ∧ s.ldc.supply = false ∧ s.Settled ∧ s.pendingList = [7] ∧ s.ldc.budget < 1010 ∧ s.ldc.engine = false ∧
      s.sto.live.batteryLimit + s.sto.live.shoreAllowance = 1010 ∧ 1010 < s.grantedSum + s.sto.live.declared[7] ∧ plainRecord 7 = true ∧
      (∀ n ∈ [11, 1], plainRecord n = true) ∧ s.ShedFirst s.mayPreempt [11, 1] ∧
      1010 + s.countedSum [11] < s.grantedSum + s.sto.live.declared[7] ∧
      s.grantedSum + s.sto.live.declared[7] = 1010 + s.countedSum [11, 1] :=
  ⟨rfl, rfl, rfl, by decide +kernel, by decide +kernel, by decide +kernel, by decide +kernel, by decide +kernel, by decide +kernel, by decide +kernel,
    ⟨by decide +kernel, by decide +kernel, by decide +kernel⟩, by decide +kernel⟩
/-- With one unit more granted at ESSENTIAL, all that may be shed would not do. -/
theorem witness_SupplyChangeMovesBudget_waits :
    let s := heatWaits 861 .essential
    s.pendingList = [7] ∧ (∀ m, s.mayPreempt m = true → m ∈ ([11, 1] : List (Fin 14))) ∧
      1010 + s.countedSum [11, 1] + 1 = s.grantedSum + s.sto.live.declared[7] := by decide +kernel

theorem ready_canTake (p : Port) (tag : Byte) (l : List Byte) (h : l.length ≤ 56) : ready.canTake ⟨p, tag, l⟩ := ⟨by cases p <;> rfl, h⟩

/-- SoC 1000 is taken as it is and 1001 is clamped. -/
theorem witness_SetChargeSetsAccount (v : Word16) :
    (charged ready).canTake ⟨.panel, 1, le2 v.toNat⟩ ∧ (charged ready).isReady = true ∧ (charged ready).chg.accountSet = true :=
  ⟨⟨rfl, show 2 ≤ 56 by decide⟩, by decide +kernel⟩

/-! ### Loads and drive -/

/-- B leaves room for exactly the declared current of PUMP. -/
def exactFit : State := { ready with ldc := { ready.ldc with budget := 70 } }

theorem witness_SetLoadGrantsFreshRecord (p : Port) (hp : p ≠ .chassis) (auto : Option Byte) :
    p ≠ .chassis ∧ masterRecord 6 = true ∧ (1 : Byte) ≠ 0 ∧ exactFit.isReady = true ∧ exactFit.Settled ∧
      exactFit.freshFits 6 exactFit.sto.live.tier[6] ∧ exactFit.canTake ⟨p, 7, byteOf 6 :: 1 :: auto.toList⟩ :=
  ⟨hp, by decide, by decide, by decide +kernel, rfl,
    ⟨by decide +kernel, by decide +kernel, by decide +kernel, by decide +kernel⟩, by cases p <;> rfl, by cases auto <;> exact Nat.le_of_ble_eq_true rfl⟩
/-- The same for a dimmed light in a LIMITED tier, whose level is capped. -/
theorem witness_SetLoadGrantsFreshRecord_capped :
    let s := { ready with ldc := { ready.ldc with gateOpen := ⟨true, false, false⟩ } }
    masterRecord 0 = true ∧ s.capped 0 s.sto.live.tier[0] = true ∧ s.freshFits 0 s.sto.live.tier[0] :=
  ⟨by decide, by decide +kernel, ⟨by decide +kernel, by decide +kernel, by decide +kernel, by decide +kernel⟩⟩

/-- PUMP is held by an owner, with an auto-off timer or none, in a phase. -/
def pumpOf (o : Owner) (auto : Option Nat) (phase : Phase) : State := ready.setLoad 6 (some ⟨o, 255, .comfort, 5, auto, phase⟩)

theorem witness_OffAndExpiryDropTheRecord (o : Owner) (auto : Option Nat) :
    let s := pumpOf o auto (.granted 1 70)
    s.load 6 = some ⟨o, 255, .comfort, 5, auto, .granted 1 70⟩ ∧ masterRecord 6 = true ∧ (∀ m ∈ s.pendingList, m = 6) ∧ s.Settled := by
  refine ⟨rfl, by decide, ?_, rfl⟩
  have h : (pumpOf o auto (.granted 1 70)).pendingList = [] := rfl
  intro m hm
  rw [h] at hm
  cases hm
/-- The owner sets it OFF; the panel displaces the gateway. -/
theorem witness_OffAndExpiryDropTheRecord_off (p : Port) (o : Owner) (h : p ≠ .chassis)
    (ho : o = portOwner p ∨ (p = .panel ∧ o = .gateway)) (auto : Option Byte) :
    let s := pumpOf o none (.granted 1 70)
    p ≠ .chassis ∧ s.isReady = true ∧ s.canTake ⟨p, 1, byteOf 6 :: 0 :: auto.toList⟩ ∧ (o = portOwner p ∨ (p = .panel ∧ o = .gateway)) :=
  ⟨h, rfl, ⟨by cases p <;> rfl, by cases auto <;> exact Nat.le_of_ble_eq_true rfl⟩, ho⟩
/-- A PENDING record may be the only one on the list. -/
theorem witness_OffAndExpiryDropTheRecord_pending : (pumpOf .panel none (.pending false)).pendingList = [6] := by decide +kernel

/-- The valve is DUMPED and PUMP granted. -/
def dumpedPump : State := { pumpOf .panel none (.granted 1 70) with cwc := { ready.cwc with dump := .dumped } }

theorem witness_PumpHoldCallSetsHold :
    dumpedPump.cwc.dump = .dumped ∧ dumpedPump.load outPump = some ⟨.panel, 255, .comfort, 5, none, .granted 1 70⟩ ∧
      dumpedPump.holdingReason outPump .comfort = none ∧ dumpedPump.ldc.hold .dumped = false ∧ dumpedPump.ldc.hold .dryRun = false := by
  decide +kernel

theorem witness_PumpHoldCallSetsHold_late (d : DumpState) (h : d ≠ .dumped) :
    let s := { ready with cwc := { ready.cwc with dump := d }, calls := [.dumpedHold] }
    s.Settled ∧ s.cwc.dump ≠ .dumped := ⟨rfl, h⟩

/-- A SET_LOAD waits that would exceed a budget already used to its last unit. -/
def fullBudget : State :=
  { pumpOf .panel none (.granted 1 70) with
    ldc := { (pumpOf .panel none (.granted 1 70)).ldc with budget := 70 }, pending := [.setLoad ⟨.panel, 1, [7, 1]⟩] }

theorem witness_StepKeepsGrantsInBudget : fullBudget.InBudget ∧ ∃ t, step fullBudget = .next t :=
  ⟨by unfold State.InBudget; decide +kernel, by rw [step_cons _ _ rfl]; exact exec_next ..⟩

/-- Scene 7 is a list. -/
def scened (l : List SceneEntry) : State := { pumpOf .panel none (.granted 1 70) with ldc := { ready.ldc with scenes := ready.ldc.scenes.set 7 l, loads := ready.ldc.loads.set 6 (some (load 255 .comfort (.granted 1 70))) } }

theorem witness_RunSceneActsAsSetLoads :
    Port.panel ≠ .chassis ∧ (scened [⟨0, 0⟩]).isReady = true ∧ (scened [⟨0, 0⟩]).Settled ∧ (scened [⟨0, 0⟩]).canTake ⟨.panel, 1, [byteOf 7]⟩ ∧
      (scened [⟨0, 0⟩]).ldc.scenes[(7 : Fin 8)] = [⟨0, 0⟩] ∧ ownedElsewhere .panel 0 (scened [⟨0, 0⟩]) = false :=
  ⟨by decide, by decide +kernel, rfl, ⟨rfl, by decide⟩, by decide +kernel, by decide +kernel⟩
/-- The gateway runs a scene whose one output the panel owns. -/
theorem witness_RunSceneActsAsSetLoads_skipped :
    Port.gateway ≠ .chassis ∧ (scened [⟨6, 255⟩]).Settled ∧ (scened [⟨6, 255⟩]).canTake ⟨.gateway, 1, [byteOf 7]⟩ ∧
      (scened [⟨6, 255⟩]).isReady = true ∧ (∀ e ∈ (scened [⟨6, 255⟩]).ldc.scenes[(7 : Fin 8)], ownedElsewhere .gateway e.output (scened [⟨6, 255⟩]) = true) :=
  ⟨by decide, rfl, ⟨rfl, by decide⟩, by decide +kernel, by decide +kernel⟩

/-- Eight entries of different master records. -/
def eightEntries : List SceneEntry := [⟨0, 255⟩, ⟨1, 0⟩, ⟨2, 1⟩, ⟨3, 1⟩, ⟨4, 1⟩, ⟨5, 1⟩, ⟨6, 1⟩, ⟨10, 1⟩]

theorem witness_SetSceneReplacesList :
    ready.isReady = true ∧ ready.Settled ∧ eightEntries.length ≤ 8 ∧ (∀ e ∈ eightEntries, masterRecord e.output = true) ∧
      (eightEntries.map SceneEntry.output).Nodup ∧
      ready.canTake ⟨.panel, 1, byteOf 7 :: eightEntries.flatMap (fun e => [byteOf e.output.val, e.level])⟩ :=
  ⟨by decide +kernel, rfl, by decide, by decide, by decide, ready_canTake _ _ _ (by decide)⟩

theorem witness_FadeStepMovesEachLight :
    let s := { ready with out := { ready.out with target := ready.out.target.set 5 255 } }
    (5 : Fin 14).val < 6 ∧ s.out.level[5] ≠ s.out.target[5] ∧ s.out.level[6] = s.out.target[6] := by decide +kernel
theorem witness_SoftStartRaisesDuty (duty : Nat) :
    ((ready.setBridge .awning ⟨.driveIn, .driveIn, duty, true⟩).bridge .awning).softStart = true ∧ (ready.bridge .awning).softStart = false :=
  ⟨rfl, rfl⟩

/-! ### Motion -/

theorem witness_HallPulseCounts_still (a : Axis) (st : AxisState) (h : st = .idle ∨ st = .standby ∨ st = .fault) :
    let s := ready.setAxis a { AxisRec.reset with state := st }
    s.dlu.lock = .free ∧ s.Settled ∧ ((s.axis a).state = .idle ∨ (s.axis a).state = .standby ∨ (s.axis a).state = .fault) := by
  cases a <;> exact ⟨rfl, rfl, h⟩
theorem witness_HallPulseCounts_waiting (a : Axis) (d : Dir) (st : AxisState) (h : st = .stopping ∨ st = .waitMotor ∨ st = .waitGrant) :
    let s := ready.setAxis a { AxisRec.reset with state := st, countDir := some d }
    s.dlu.lock = .free ∧ s.Settled ∧ ((s.axis a).state = .stopping ∨ (s.axis a).state = .waitMotor ∨ (s.axis a).state = .waitGrant) ∧
      (s.axis a).countDir = some d := by
  cases a <;> exact ⟨rfl, rfl, h, rfl⟩

/-- The awning runs a segment from a position. -/
def awningRuns (g : Segment) (position : Nat) : State := driven .awning (if g.dir = .outward then .driveOut else .driveIn) (runner g position) ready

/-- A pulse that reaches the target, one that overruns, and one that does neither. -/
theorem witness_HallPulseCounts_running (g : Segment) (position : Nat) :
    let s := awningRuns g position
    s.dlu.lock = .free ∧ s.Settled ∧ (s.axis .awning).state = .running ∧ (s.axis .awning).countDir = some g.dir ∧
      (s.axis .awning).backOff = none ∧ (s.axis .awning).plan = some (.single g) ∧ (s.axis .awning).known = true ∧
      (s.axis .awning).position = position := ⟨rfl, rfl, rfl, rfl, rfl, rfl, rfl, rfl⟩
theorem witness_HallPulseCounts_limits :
    (100 ≤ min (99 + 1) (Settings.default.travel .awning + 32)) ∧ (min (3631 + 1) (Settings.default.travel .awning + 32) = Settings.default.travel .awning + 32) := by
  decide
/-- A wait with no count direction. -/
theorem witness_HallPulseCounts_uncounted (a : Axis) (st : AxisState) (h : st = .waitMotor ∨ st = .waitGrant) :
    let s := ready.setAxis a { AxisRec.reset with state := st }
    s.Settled ∧ s.dlu.lock = .free ∧ ((s.axis a).state = .waitMotor ∨ (s.axis a).state = .waitGrant) ∧ (s.axis a).countDir = none := by
  cases a <;> exact ⟨rfl, rfl, h, rfl⟩
/-- A lock retraction runs under the lock, stowed already at 8 and not at 9. -/
theorem witness_HallPulseCounts_locked (l : LockState) (position : Nat) :
    let u := awningRuns inwardEnd position
    let s := { u.setAxis .awning { u.axis .awning with source := some .lock } with dlu := { u.dlu with lock := l } }
    s.Settled ∧ (s.axis .awning).runsSource .lock = true ∧ s.dlu.lock = l ∧ (s.axis .awning).state = .running ∧
      (s.axis .awning).countDir = some .inward ∧ (s.axis .awning).backOff = none ∧ (s.axis .awning).plan = some (.single inwardEnd) ∧
      ((runner inwardEnd 8).stowed = true ∧ (runner inwardEnd 9).stowed = false) := ⟨rfl, rfl, rfl, rfl, rfl, rfl, rfl, by decide⟩
/-- A pulse that brings a back-off to its target, and one that ends one short of it. -/
theorem witness_HallPulseCounts_backOff (position : Nat) (_ : position = 115 ∨ position = 114) :
    let s := ready.setAxis .awning { runner inwardEnd position with countDir := some .outward, backOff := some 116 }
    s.Settled ∧ s.dlu.lock = .free ∧ (s.axis .awning).state = .running ∧ (s.axis .awning).countDir = some .outward ∧
      (s.axis .awning).backOff = some 116 ∧ (s.axis .awning).position = position ∧ min (115 + 1) (s.sto.live.travel .awning + 32) = 116 ∧
      min (114 + 1) (s.sto.live.travel .awning + 32) < 116 := ⟨rfl, rfl, rfl, rfl, rfl, rfl,
    (by decide : min (115 + 1) (Settings.default.travel .awning + 32) = 116), (by decide : min (114 + 1) (Settings.default.travel .awning + 32) < 116)⟩

theorem witness_RunningAxisEndsOrFaults (g : Segment) (position : Nat) :
    let s := awningRuns g position
    s.Settled ∧ (s.axis .awning).state = .running ∧ (s.axis .awning).lastPulse = true ∧ (s.axis .awning).backOff = none ∧
      (s.axis .awning).plan = some (.single g) ∧ (s.axis .awning).known = true := ⟨rfl, rfl, rfl, rfl, rfl, rfl⟩
theorem witness_RunningAxisEndsOrFaults_backOff :
    let s := ready.setAxis .awning { runner inwardEnd 100 with backOff := some 116 }
    s.Settled ∧ (s.axis .awning).state = .running ∧ (s.axis .awning).lastPulse = true ∧ (s.axis .awning).backOff ≠ none := ⟨rfl, by decide +kernel⟩
theorem witness_RunningAxisEndsOrFaults_overcurrent :
    stepRuns.Settled ∧ (stepRuns.axis .step).state = .running ∧ stepRuns.mot.sense = some .step := ⟨rfl, by decide +kernel⟩
/-- MOTOR_I comes for the holder of the sense, at the trip and above it, for the second and the third time. -/
theorem witness_RunningAxisEndsOrFaults_motorI (count : Nat) (_ : count = 1 ∨ count = 2) :
    let s := fastAt 2 (stepRuns.setAxis .step { stepRuns.axis .step with overCount := count })
    s.Settled ∧ s.scv.inFlight = some .fast ∧ s.scv.fastGroup = some 2 ∧ s.mot.sense = some .step ∧ (s.axis .step).state = .running ∧
      (s.axis .step).overCount = count ∧ (1500 : BitVec 12).toNat = s.sto.live.trip .step ∧ s.sto.live.trip .step < (1501 : BitVec 12).toNat ∧
      s.mot.sense ≠ some .awning := ⟨rfl, rfl, rfl, rfl, rfl, rfl,
    (by decide : (1500 : BitVec 12).toNat = Settings.default.trip .step), (by decide : Settings.default.trip .step < (1501 : BitVec 12).toNat),
    (by decide : some Axis.step ≠ some .awning)⟩

/-- STEP stops with a continuation and a fault kind, at the end of a plan. -/
def stepEnds (c : Continuation) (k : Option MotionFault) : State := (stepStops c).setAxis .step { (stepStops c).axis .step with faultKind := k }

theorem witness_StoppingEndsThePlan (c : Continuation) (k : Option MotionFault) :
    let s := stepEnds c k
    s.Settled ∧ (s.axis .step).state = .stopping ∧ (s.axis .step).source = some .panel ∧ Source.panel ≠ .lock ∧
      (∀ b, b ≠ Axis.step → (s.axis b).state ≠ .waitMotor) ∧ s.mot.sense = some .step ∧ s.pendingList = [] ∧
      (s.axis .step).continuation = some c ∧ (s.axis .step).plan = some (.single (outwardEnd 240)) ∧
      (Plan.single (outwardEnd 240)).second = none ∧ (s.axis .step).faultKind = k ∧ (s.axis .step).held = none := by
  refine ⟨rfl, rfl, rfl, by decide, fun b hb => ?_, rfl, rfl, rfl, rfl, rfl, rfl, rfl⟩
  cases b with
  | step => exact absurd rfl hb
  | awning => simp [stepEnds, stepStops, driven, State.setAxis, State.axis, State.setLoad, State.setBridge, ready, State.reset, Mot.reset, AxisRec.reset]

/-- STEP stops in a lock retraction at a position, under the lock, with the awning stowed and the marks as given. -/
def lockEnds (c : Continuation) (k : Option MotionFault) (l : LockState) (position : Nat) (awningMark : Bool) : State :=
  let s := stepEnds c k
  let u := s.setAxis .step { s.axis .step with source := some .lock, position := position, plan := some (.single inwardEnd) }
  { u.setAxis .awning { AxisRec.reset with known := true } with dlu := { u.dlu with lock := l, stepMark := true, awningMark := awningMark } }

theorem witness_StoppingEndsThePlan_lock (c : Continuation) (k : Option MotionFault) (l : LockState) (position : Nat) (mark : Bool) :
    let s := lockEnds c k l position mark
    s.Settled ∧ (s.axis .step).state = .stopping ∧ (s.axis .step).source = some .lock ∧ Axis.awning ≠ .step ∧
      (s.axis .awning).state ≠ .waitMotor ∧ s.mot.sense = some .step ∧ s.pendingList = [] ∧ (s.axis .step).continuation = some c ∧
      (s.axis .step).plan = some (.single inwardEnd) ∧ (s.axis .step).faultKind = k ∧ (s.axis .step).held = none ∧ s.dlu.lock = l ∧
      s.dlu.planMark .awning = mark ∧ (s.axis .awning).stowedIdle = true :=
  ⟨rfl, rfl, rfl, by decide, by change AxisState.idle ≠ _; decide, rfl, rfl, rfl, rfl, rfl, rfl, rfl, rfl, rfl⟩
/-- The retraction ends stowed at 8 and not at 9. -/
theorem witness_StoppingEndsThePlan_stowed :
    ((lockEnds .next none .pending 8 false).axis .step).stowed = true ∧ ((lockEnds .next none .pending 9 false).axis .step).stowed = false := by
  decide +kernel

theorem witness_StoppingLeadsOn_standby :
    let s := stepStops .standby
    s.Settled ∧ (s.axis .step).state = .stopping ∧ (s.axis .step).continuation = some .standby ∧ s.mot.sense = some .step ∧
      (s.axis .awning).state ≠ .waitMotor := ⟨rfl, by decide +kernel⟩
/-- With the position known, and UNKNOWN by a new travel. -/
theorem witness_StoppingLeadsOn_backOff (known : Bool) :
    let s := (stepStops .backOff).setAxis .step { (stepStops .backOff).axis .step with known := known, backOff := some 101 }
    s.Settled ∧ (s.axis .step).state = .stopping ∧ (s.axis .step).continuation = some .backOff ∧ (s.axis .step).backOff = some 101 ∧
      (s.axis .step).known = known ∧ (s.axis .step).position < 101 ∧ s.dlu.lock = .free :=
  ⟨rfl, rfl, rfl, rfl, rfl, (by decide : 100 < 101), rfl⟩
/-- STEP stops with a continuation at 100, with a plan of two segments and its record in a phase. -/
def stepLeadsOn (c : Continuation) (p : Plan) (phase : Phase) : State :=
  let s := (stepStops c).setLoad 12 (some (load 255 .comfort phase))
  s.setAxis .step { s.axis .step with plan := some p }

theorem witness_StoppingLeadsOn_goesOn (c : Continuation) (h : c = .next ∨ c = .wait ∨ c = .resume ∨ c = .newPlan) (phase : Phase) :
    let p : Plan := ⟨inwardEnd, some (outwardEnd 240), false⟩
    let s := stepLeadsOn c p phase
    s.Settled ∧ Axis.awning ≠ .step ∧ (s.axis .step).state = .stopping ∧ (s.axis .step).plan = some p ∧
      s.load (axisRecord .step) = some (load 255 .comfort phase) ∧
      (((s.axis .step).continuation = some .next ∧ p.second.isSome = true ∧ p.onSecond = false) ∨ (s.axis .step).continuation = some .wait ∨
        (s.axis .step).continuation = some .resume ∨
        ((s.axis .step).continuation = some .newPlan ∧ ((s.axis .awning).state ≠ .waitMotor ∨ Axis.step = .step))) ∧
      s.dlu.lock = .free ∧ s.mot.stopn = false ∧ (s.axis .step).position = 100 := by
  refine ⟨rfl, by decide, rfl, rfl, rfl, ?_, rfl, rfl, rfl⟩
  obtain rfl | rfl | rfl | rfl := h
  · exact .inl ⟨rfl, rfl, rfl⟩
  · exact .inr (.inl rfl)
  · exact .inr (.inr (.inl rfl))
  · exact .inr (.inr (.inr ⟨rfl, .inr rfl⟩))
/-- A TARGET segment one short of the position and one past it, to be driven back; and an outward segment that STOPN, wind or the lock halts. -/
theorem witness_StoppingLeadsOn_aims (target : Nat) (h : target = 99 ∨ target = 101) :
    let p : Plan := ⟨⟨.outward, target, false⟩, none, false⟩
    let s := stepLeadsOn .wait p (.granted 3 80)
    (s.axis .step).plan = some p ∧ (p.current.toEnd = true ∨ p.current.target ≠ (s.axis .step).position) ∧ s.dlu.lock = .free := by
  refine ⟨rfl, .inr ?_, rfl⟩
  obtain rfl | rfl := h <;> decide +kernel
theorem witness_StoppingLeadsOn_halted (lock : LockState) (stopn : Bool) :
    let u := stepLeadsOn .wait (.single (outwardEnd 240)) (.granted 3 80)
    let s := { u with mot := { u.mot with stopn := stopn, windHold := true }, dlu := { u.dlu with lock := lock } }
    s.Settled ∧ (s.axis .step).source ≠ some .lock ∧ (s.axis .awning).state ≠ .waitMotor ∧ s.pendingList = [] ∧ s.dlu.lock = lock ∧
      s.mot.stopn = stopn :=
  ⟨rfl, (by decide : some Source.panel ≠ some Source.lock), (by decide : AxisState.idle ≠ AxisState.waitMotor), rfl, rfl, rfl⟩
/-- The awning stops with NEW PLAN while STEP waits for the sense, its record PENDING. -/
theorem witness_StoppingLeadsOn_yields :
    let u := ready.setAxis .awning { runner (outwardEnd 3600) 100 with state := .stopping, continuation := some .newPlan }
    let s := (u.setAxis .step { runner inwardEnd 100 with state := .waitMotor }).setLoad 12 (some (load 255 .comfort (.pending false)))
    s.Settled ∧ Axis.step ≠ .awning ∧ (s.axis .awning).state = .stopping ∧ (s.axis .awning).continuation = some .newPlan ∧
      s.mot.step.state = .waitMotor ∧ s.load 12 = some (load 255 .comfort (.pending false)) := ⟨rfl, by decide, rfl, rfl, rfl, rfl⟩

theorem witness_JogsStopResumeAndEnd_deadline :
    awningJogs.Settled ∧ (awningJogs.axis .awning).jogLive = true ∧ (awningJogs.axis .awning).state = .running ∧
      (awningJogs.axis .awning).backOff = none := ⟨rfl, by decide +kernel⟩

/-- The awning's jog is stopping after its deadline. -/
def jogStops : State :=
  awningJogs.setAxis .awning { awningJogs.axis .awning with state := .stopping, continuation := some .standby, jogLive := false }

theorem witness_JogsStopResumeAndEnd_continue (s : State) (h : s = awningJogs ∨ s = jogStops) :
    s.Settled ∧ s.canTake ⟨.panel, 1, [1, 5]⟩ ∧ s.isReady = true ∧ (s.axis .awning).mode = .jog ∧ (s.axis .awning).jogPort = some .panel ∧
      (s.axis .awning).source = some .panel ∧ s.dlu.lock = .free ∧ s.mot.stopn = false ∧ s.mot.windHold = false ∧
      (((s.axis .awning).state = .running ∧ (s.axis .awning).backOff = none) ∨
        ((s.axis .awning).state = .stopping ∧ (s.axis .awning).continuation = some .standby)) := by
  obtain rfl | rfl := h
  · exact ⟨rfl, ⟨rfl, by decide⟩, by decide +kernel⟩
  · exact ⟨rfl, ⟨rfl, by decide⟩, by decide +kernel⟩
theorem witness_JogsStopResumeAndEnd_standby :
    let s := ready.setAxis .step { runner inwardEnd 50 with state := .standby, standbyTimer := true }
    s.Settled ∧ (s.axis .step).state = .standby ∧ (s.axis .step).standbyTimer = true ∧ (s.axis .step).source = some .panel ∧
      s.mot.sense ≠ some .step ∧ s.pendingList = [] := ⟨rfl, by decide +kernel⟩

theorem witness_StopsHaltRunningAxes :
    stepRuns.Settled ∧ stepRuns.mot.stopn = false ∧
      (∀ a, (stepRuns.axis a).state = .running ∨ (stepRuns.axis a).state = .stopping ∨ (stepRuns.axis a).state = .idle ∨
        (stepRuns.axis a).state = .fault) ∧
      stepRuns.isReady = true ∧ ∀ p, stepRuns.canTake ⟨p, 1, [0, 6]⟩ :=
  ⟨rfl, rfl, fun a => by cases a <;> decide +kernel, by decide +kernel, fun p => ⟨by cases p <;> rfl, Nat.le_of_ble_eq_true rfl⟩⟩
theorem witness_StopsHaltRunningAxes_again : ({ stepRuns with mot := { stepRuns.mot with stopn := true } } : State).mot.stopn = true := rfl
theorem witness_StopsHaltRunningAxes_stopping (c : Continuation) :
    (stepStops c).Settled ∧ ((stepStops c).axis .step).state = .stopping ∧ ((stepStops c).axis .step).continuation = some c ∧
      ((stepStops c).axis .awning).state = .idle := ⟨rfl, rfl, rfl, rfl⟩
theorem witness_StopsHaltRunningAxes_waiting (st : AxisState) (h : st = .waitMotor ∨ st = .waitGrant ∨ st = .standby) (p : Port) :
    let s := ready.setAxis .awning { runner inwardEnd 50 with state := st }
    s.Settled ∧ s.canTake ⟨p, 1, [1, 6]⟩ ∧ s.isReady = true ∧ (s.axis .awning).source = some .panel ∧ Source.panel ≠ .lock ∧
      ((s.axis .awning).state = .waitMotor ∨ (s.axis .awning).state = .waitGrant ∨ (s.axis .awning).state = .standby) ∧
      (s.axis .step).state = .idle ∧ s.pendingList = [] ∧ s.mot.stopn = false :=
  ⟨rfl, ⟨by cases p <;> rfl, Nat.le_of_ble_eq_true rfl⟩, rfl, rfl, by decide, h, rfl, rfl, rfl⟩

/-- The awning holds the sense and the step stands IDLE at a position. -/
def stepWaits (known : Bool) (position : Nat) : State :=
  { ready.setAxis .step { AxisRec.reset with known := known, position := position } with
    mot := { (ready.setAxis .step { AxisRec.reset with known := known, position := position }).mot with sense := some .awning } }

/-- The step stands one pulse short of extended, or nothing is known of it. -/
theorem witness_EntryOpenExtendsTheStep (known : Bool) (position : Nat) (h : known = false ∨ position = 231) :
    let s := stepWaits known position
    s.Settled ∧ s.sto.live.autoStep = true ∧ s.dlu.lock = .free ∧ s.dlu.ignition = false ∧ s.dlu.stale = false ∧ s.mot.stopn = false ∧
      s.mot.step.state = .idle ∧ ¬ (s.mot.step.known = true ∧ s.sto.live.stepTravel - 8 ≤ s.mot.step.position) ∧ s.mot.sense = some .awning ∧
      s.load 12 = none := by
  refine ⟨rfl, rfl, rfl, rfl, rfl, rfl, rfl, fun hc => ?_, rfl, rfl⟩
  have h1 : known = true := hc.1
  have h2 : 240 - 8 ≤ position := hc.2
  obtain h | h := h
  · simp [h] at h1
  · omega
/-- The step stands extended: nothing but the contact changes. -/
theorem witness_EntryOpenExtendsTheStep_extended :
    (stepWaits true 232).mot.step.state = .idle ∧ (stepWaits true 232).mot.step.known = true ∧
      (stepWaits true 232).sto.live.stepTravel - 8 ≤ (stepWaits true 232).mot.step.position := by decide +kernel

/-- Toward FAULT, under a safety plan, in a jog: one state for each. -/
theorem witness_EntryOpenExtendsTheStep_held :
    (stepStops .fault).mot.step.towardFault = true ∧
      (ready.setAxis .step { runner inwardEnd 50 with source := some .lock }).mot.step.runsSource .lock = true ∧
      (ready.setAxis .step { runner inwardEnd 50 with source := some .wind }).mot.step.runsSource .wind = true ∧
      (ready.setAxis .step { runner inwardEnd 50 with mode := .jog }).mot.step.mode = .jog ∧
      (ready.setAxis .step { runner inwardEnd 50 with mode := .jog }).mot.step.state ≠ .idle := by decide +kernel

theorem witness_WindWindowJudgesTheCount_calm :
    let s := { awningJogs with mot := { awningJogs.mot with windCount := 45 } }
    s.Settled ∧ s.mot.windCount ≤ s.sto.live.windLimit := ⟨rfl, by decide +kernel⟩
theorem witness_WindWindowJudgesTheCount_begins :
    let s := { awningJogs with mot := { awningJogs.mot with windCount := 46 } }
    s.Settled ∧ s.sto.live.windLimit < s.mot.windCount ∧ s.mot.windHold = false ∧ s.mot.prevAbove = false ∧ s.mot.awning.state = .running ∧
      s.mot.awning.backOff = none ∧ s.mot.awning.outwardSegment = true := ⟨rfl, by decide +kernel⟩
theorem witness_WindWindowJudgesTheCount_inward :
    let s := { awningRuns inwardEnd 50 with mot := { (awningRuns inwardEnd 50).mot with windCount := 46 } }
    s.Settled ∧ s.sto.live.windLimit < s.mot.windCount ∧ s.mot.windHold = false ∧ s.mot.prevAbove = false ∧ s.mot.awning.state = .running ∧
      s.mot.awning.backOff = none ∧ s.mot.awning.outwardSegment = false := ⟨rfl, by decide +kernel⟩
theorem witness_WindWindowJudgesTheCount_stowed :
    let s := { stowed with mot := { stowed.mot with windCount := 46, prevAbove := true } }
    s.Settled ∧ s.sto.live.windLimit < s.mot.windCount ∧ s.mot.awning.outwardSegment = false ∧ s.mot.awning.stowed = true := ⟨rfl, by decide +kernel⟩

/-- A second window above the limit finds the awning IDLE one pulse past the stowed range, or RUNNING outward with the sense. -/
theorem witness_WindWindowJudgesTheCount_retract (s : State)
    (h : s = ready.setAxis .awning { AxisRec.reset with known := true, position := 9 } ∨ s = awningJogs) :
    let u := { s with mot := { s.mot with windCount := 46, prevAbove := true, windHold := true, calmTimer := true } }
    u.Settled ∧ u.sto.live.windLimit < u.mot.windCount ∧ u.mot.windHold = true ∧ u.mot.prevAbove = true ∧ u.mot.awning.stowed = false ∧
      u.mot.awning.runsSource .wind = false ∧ u.mot.awning.runsSource .lock = false ∧ u.mot.awning.towardFault = false := by
  obtain rfl | rfl := h
  · exact ⟨rfl, by decide +kernel⟩
  · exact ⟨rfl, by decide +kernel⟩

/-- An axis stands IDLE while the other holds the sense. -/
def axisWaits (a b : Axis) (known : Bool) (position : Nat) : State :=
  let s := ready.setAxis a { AxisRec.reset with known := known, position := position }
  { s with mot := { s.mot with sense := some b } }

theorem witness_MoveWaitsForTheSense (a b : Axis) (h : a ≠ b) (known : Bool) (position : Nat) :
    let s := axisWaits a b known position
    s.Settled ∧ s.isReady = true ∧ s.panel.answer = none ∧ a ≠ b ∧ s.mot.sense = some b ∧ (s.axis a).state = .idle ∧
      s.load (axisRecord a) = none ∧ s.dlu.lock = .free ∧ s.mot.stopn = false ∧ s.mot.windHold = false ∧ (s.axis a).known = known ∧
      (s.axis a).position = position := by
  cases a <;> exact ⟨rfl, rfl, rfl, h, rfl, rfl, rfl, rfl, rfl, rfl, rfl, rfl⟩
/-- The positions at which each clause ends: EXTEND below 3592, RETRACT above 8, GOTO from 1 to the travel and beyond. -/
theorem witness_MoveWaitsForTheSense_clauses :
    ¬ (true = true ∧ (axisWaits .awning .step true 3591).sto.live.travel .awning - 8 ≤ 3591) ∧ ¬ (true = true ∧ 9 ≤ 8) ∧
      0 < min (1 : Word16).toNat ((axisWaits .awning .step true 9).sto.live.travel .awning) ∧
      ¬ (true = true ∧ 9 = min (0xFFFF : Word16).toNat ((axisWaits .awning .step true 9).sto.live.travel .awning)) ∧
      ¬ (true = true ∧ 1 = 0) ∧ (le2 (0 : Word16).toNat) = [0, 0] := by decide +kernel

/-- An axis stands IDLE at a known position with everything free and room for exactly its current. -/
def axisFree (a : Axis) (position : Nat) : State :=
  let s := ready.setAxis a { AxisRec.reset with known := true, position := position }
  { s with ldc := { s.ldc with budget := s.sto.live.declared[axisRecord a] } }

/-- At the two positions between which both EXTEND and RETRACT of the step have a way to go. -/
theorem witness_MoveStartsTheDrive (a : Axis) (position : Nat) (h : position = 9 ∨ position = 231) :
    let s := axisFree a position
    s.Settled ∧ s.isReady = true ∧ s.panel.answer = none ∧ s.mot.sense = none ∧ (s.axis a).state = .idle ∧ (s.axis a).known = true ∧
      s.dlu.lock = .free ∧ s.mot.stopn = false ∧ s.mot.windHold = false ∧ s.freshFits (axisRecord a) s.sto.live.tier[axisRecord a] ∧
      (s.bridge a).effective = .coast ∧ (s.axis a).position = position ∧ ¬ s.sto.live.travel a - 8 ≤ position ∧ ¬ position ≤ 8 := by
  obtain rfl | rfl := h <;> cases a <;> exact ⟨rfl, rfl, rfl, rfl, rfl, rfl, rfl, rfl, rfl,
    ⟨by decide +kernel, by decide +kernel, by decide +kernel, by decide +kernel⟩, rfl, rfl, by decide +kernel, by decide⟩

/-- The step drives outward, and a TAKE of the lock waits. -/
def takeWaits : State := { stepRuns with pending := [.driveLockTake .chassis 1 []] }

theorem witness_StepKeepsOutwardDriveUnderTheLock : takeWaits.LockSafe ∧ ∃ t, step takeWaits = .next t :=
  ⟨⟨fun a => by cases a <;> decide +kernel, fun a => by cases a <;> decide +kernel, fun h => absurd rfl h⟩,
    by rw [step_cons _ _ rfl]; exact exec_next ..⟩
/-- The same with the lock HELD. -/
theorem witness_StepKeepsOutwardDriveUnderTheLock_held :
    let s := { stowed with dlu := { stowed.dlu with lock := .held }, pending := [.moveExtend .panel 1 0 []] }
    s.LockSafe ∧ ∃ t, step s = .next t :=
  ⟨⟨fun a => by cases a <;> decide +kernel, fun a => by cases a <;> decide +kernel, fun _ a => by cases a <;> decide +kernel⟩,
    by rw [step_cons _ _ rfl]; exact exec_next ..⟩

/-! ### Lock, vehicle and climate -/

/-- The lock stands in a state, with both axes stowed. -/
def lockAt (l : LockState) : State :=
  { stowed with dlu := { stowed.dlu with lock := l }, cwc := { stowed.cwc with freeze := l != .free } }

theorem witness_DriveLockIsTakenAndReleased (l : LockState) :
    let s := lockAt l
    s.Settled ∧ s.isReady = true ∧ s.chassis.answer = none ∧ s.cwc.freeze = s.dlu.frozen ∧ s.dlu.lock = l ∧
      s.mot.step.stowedIdle = true ∧ s.mot.awning.stowedIdle = true := by
  refine ⟨rfl, rfl, rfl, ?_, rfl, rfl, rfl⟩
  cases l <;> rfl

/-- STEP runs outward, is in a back-off, or stands in FAULT, and the awning stands stowed; and either stands UNKNOWN. -/
theorem witness_DriveLockIsTakenAndReleased_out (s : State)
    (h : s = stepRuns ∨ s = ready ∨ s = stepStops .backOff ∨ s = stowed.setAxis .step { AxisRec.reset with state := .fault, known := true }) :
    s.Settled ∧ s.isReady = true ∧ s.chassis.answer = none ∧ s.cwc.freeze = s.dlu.frozen ∧ s.dlu.lock = .free ∧
      ¬ (s.mot.step.stowedIdle = true ∧ s.mot.awning.stowedIdle = true) ∧ ∀ a, (s.axis a).settledForLock := by
  obtain rfl | rfl | rfl | rfl := h <;>
    exact ⟨rfl, rfl, rfl, rfl, rfl, by decide +kernel, fun a => by cases a <;> unfold AxisRec.settledForLock <;> decide +kernel⟩
theorem witness_DriveLockIsTakenAndReleased_pulse (a : Axis) (fault : Bool) :
    let s := { lockAt .held with dlu := { (lockAt .held).dlu with lockFault := fault } }
    s.Settled ∧ s.dlu.lock = .held ∧ (s.axis a).stowedIdle = true ∧ s.dlu.lockFault = fault ∧ ∀ b, (s.axis b).state = .idle := by
  refine ⟨rfl, rfl, by cases a <;> rfl, rfl, fun b => by cases b <;> rfl⟩

theorem witness_VehicleReportsAndStaleness :
    let s := lockAt .free
    s.Settled ∧ s.cwc.freeze = s.dlu.frozen ∧ s.isReady = true ∧ s.canTake ⟨.chassis, 1, [0, 0, 1]⟩ ∧ (0 : Byte).toNat ≤ 1 ∧
      (1 : Byte).toNat ≤ 1 ∧ s.dlu.stale = false ∧ s.dlu.engineInForce = ((0 : Byte) == 1) ∧ ((0 : Byte) = 1 → s.dlu.ignition = true) ∧
      s.mot.step.stowedIdle = true ∧ s.mot.awning.stowedIdle = true :=
  ⟨rfl, rfl, rfl, ⟨rfl, by decide⟩, by decide, by decide, rfl, rfl, by decide, by decide +kernel, by decide +kernel⟩
/-- A moving vehicle with STEP running outward. -/
theorem witness_VehicleReportsAndStaleness_out :
    stepRuns.Settled ∧ stepRuns.cwc.freeze = stepRuns.dlu.frozen ∧ stepRuns.isReady = true ∧ stepRuns.canTake ⟨.chassis, 1, [0, 0, 1]⟩ ∧
      stepRuns.dlu.stale = false ∧ stepRuns.dlu.engineInForce = ((0 : Byte) == 1) ∧ ((0 : Byte) = 1 → stepRuns.dlu.ignition = true) ∧
      stepRuns.dlu.lock = .free ∧ ¬ (stepRuns.mot.step.stowedIdle = true ∧ stepRuns.mot.awning.stowedIdle = true) ∧
      ∀ a, (stepRuns.axis a).settledForLock :=
  ⟨rfl, rfl, rfl, ⟨rfl, by decide⟩, rfl, rfl, by decide, rfl, by decide +kernel,
    fun a => by cases a <;> unfold AxisRec.settledForLock <;> decide +kernel⟩
/-- An ignition that is on stays on, under the lock. -/
theorem witness_VehicleReportsAndStaleness_on :
    let s := { lockAt .held with dlu := { (lockAt .held).dlu with ignition := true, engine := true, engineInForce := true } }
    s.Settled ∧ s.cwc.freeze = s.dlu.frozen ∧ s.isReady = true ∧ s.canTake ⟨.chassis, 1, [1, 1, 1]⟩ ∧ s.dlu.stale = false ∧
      s.dlu.engineInForce = ((1 : Byte) == 1) ∧ s.dlu.ignition = true ∧ s.dlu.lock ≠ .free := ⟨rfl, rfl, rfl, ⟨rfl, by decide⟩, by decide +kernel⟩
theorem witness_VehicleReportsAndStaleness_stale :
    let s := { stowed with dlu := { stowed.dlu with staleTimer := true } }
    s.dlu.staleTimer = true ∧ s.mot.step.stowedIdle = true := by decide +kernel
/-- A report ends a staleness and changes the engine in force, in FREE and under the lock. -/
theorem witness_VehicleReportsAndStaleness_ends (l : LockState) :
    let s := { lockAt l with dlu := { (lockAt l).dlu with stale := true } }
    s.Settled ∧ s.cwc.freeze = s.dlu.frozen ∧ s.isReady = true ∧ s.canTake ⟨.chassis, 1, [1, 1, 0]⟩ ∧
      ((1 : Byte) = 1 → s.dlu.ignition = true ∨ s.dlu.stale = true) ∧ s.ldc.engine = s.dlu.engineInForce ∧ s.dlu.lock = l ∧
      s.dlu.engineInForce ≠ ((1 : Byte) == 1) ∧ s.dlu.engineInForce = ((0 : Byte) == 1) := by
  cases l <;> exact ⟨rfl, rfl, rfl, ⟨rfl, by decide⟩, fun _ => .inr rfl, rfl, rfl, by decide +kernel, by decide +kernel⟩
/-- An ignition-on event, by a report and by staleness, with STEP out at 9, running outward, and stopping toward FAULT. -/
theorem witness_VehicleReportsAndStaleness_ignition (s : State)
    (h : s = stowed.setAxis .step { AxisRec.reset with known := true, position := 9 } ∨ s = stepRuns ∨ s = stepStops .fault) :
    s.Settled ∧ s.cwc.freeze = s.dlu.frozen ∧ s.isReady = true ∧ s.canTake ⟨.chassis, 1, [1, 0, 0]⟩ ∧ s.dlu.engineInForce = ((0 : Byte) == 1) ∧
      s.dlu.ignition = false ∧ s.dlu.stale = false ∧ s.sto.live.autoStep = true ∧ s.mot.step.stowedIdle = false ∧
      s.mot.step.runsSource .lock = false ∧ s.mot.step.runsSource .wind = false ∧
      ({ s with dlu := { s.dlu with staleTimer := true } } : State).dlu.staleTimer = true := by
  obtain rfl | rfl | rfl := h <;> exact ⟨rfl, rfl, rfl, ⟨rfl, by decide⟩, rfl, rfl, rfl, rfl, by decide +kernel, by decide +kernel, by decide +kernel, rfl⟩

theorem witness_HeatIsRequested_cold :
    let s := { cold with cwc := { cold.cwc with setMode := .eco, effMode := .eco, tCabin := ⟨some 165, false⟩ } }
    let t := { s with ldc := { s.ldc with budget := s.sto.live.declared[outHeat] } }
    t.Settled ∧ t.cwc.minOff = some 1 ∧ t.cwc.effectiveTarget.isSome = true ∧ cold.cwc.effectiveTarget = some 50 ∧
      cold.cwc.tCabin = ⟨some 45, false⟩ ∧ (45 : Int) ≤ 50 - 5 ∧ cold.cwc.demand = false ∧ cold.Settled ∧ cold.cwc.minOff = some 1 ∧
      cold.freshFits outHeat cold.heatTier :=
  ⟨rfl, rfl, by decide +kernel, by decide +kernel, rfl, by decide, rfl, rfl, rfl,
    ⟨by decide +kernel, by decide +kernel, by decide +kernel, by decide +kernel⟩⟩
theorem witness_HeatIsRequested_warm :
    let s := { cold with cwc := { cold.cwc with tCabin := ⟨some 46, false⟩ } }
    s.Settled ∧ s.cwc.minOff = some 1 ∧ s.cwc.demand = false ∧ s.cwc.effectiveTarget = some 50 ∧ s.cwc.tCabin = ⟨some 46, false⟩ ∧
      (50 : Int) - 5 < 46 := ⟨rfl, by decide +kernel⟩
theorem witness_HeatIsRequested_off : ({ cold with cwc := { cold.cwc with effMode := .off } } : State).cwc.effMode = .off ∧ cold.cwc.demand = false :=
  ⟨rfl, rfl⟩
theorem witness_HeatIsRequested_fallback :
    let s := { fallback with ldc := { fallback.ldc with budget := fallback.sto.live.declared[outHeat] } }
    s.Settled ∧ s.cwc.effMode = .fallback ∧ s.gated outHeat = true ∧ s.pendingList = [] ∧ s.holdingReason outHeat .essential = none ∧
      s.grantedSum + s.sto.live.declared[outHeat] ≤ s.ldc.budget := ⟨rfl, by decide +kernel⟩
theorem witness_HeatIsRequested_late : ¬ (ready.cwc.effMode = .fallback ∧ ready.gated outHeat = true) := by decide +kernel

theorem witness_DumpAndCloseMoveTheValve (p : Port) (h : p ≠ .chassis) (d : DumpState) :
    let s := { ready with cwc := { ready.cwc with dump := d } }
    s.Settled ∧ s.isReady = true ∧ p ≠ .chassis ∧ (s.port p).answer = none ∧ s.cwc.dump = d := ⟨rfl, rfl, h, by cases p <;> rfl, rfl⟩
/-- One tenth above the threshold with its margin the close is granted, at it it is refused. -/
theorem witness_DumpAndCloseMoveTheValve_close (temp : Int) (_ : temp = 21 ∨ temp = 20) :
    let s := { warm with cwc := { warm.cwc with temp := .fresh temp } }
    s.Settled ∧ s.isReady = true ∧ s.gateway.answer = none ∧ s.cwc.dump = .dumped ∧ s.cwc.temp.value = some temp ∧ s.load outDump = none ∧
      s.sto.live.dumpThreshold + 10 = 20 := ⟨rfl, rfl, rfl, rfl, rfl, rfl, rfl⟩

/-- A target at the upper end of its range, and one beyond it. -/
theorem witness_SetClimateSetsModeAndTarget (lo hi : Byte) (mode : HeatMode) (h : mode ≠ .fallback) :
    ready.Settled ∧ ready.isReady = true ∧ Port.gateway ≠ .chassis ∧ mode ≠ .fallback ∧ ready.canTake ⟨.gateway, 1, [byteOf mode.code, lo, hi]⟩ ∧
      ready.cwc.demand = false ∧ ready.load outHeat = none :=
  ⟨rfl, rfl, by decide, h, ready_canTake _ _ _ (Nat.le_of_ble_eq_true rfl), rfl, rfl⟩

/-! ### Requests, ports and the store -/

theorem witness_ReadRequestsChangeNothing (p : Port) :
    (ready.port p).answer = none ∧ ready.isReady = true ∧ SettingId.ofNat 1 = some .zeroOffset ∧
      SettingId.ofNat 100 = some (.tankTable .grey) := ⟨by cases p <;> rfl, rfl, rfl, rfl⟩
theorem witness_IdentCarriesItsItems (p : Port) : (State.reset.port p).answer = none := by cases p <;> rfl
/-- A payload of one byte and the longest one, before READY. -/
theorem witness_IdentCarriesItsItems_badLength (p : Port) (n : Nat) (h : n = 1 ∨ n = 56) :
    List.replicate n (0 : Byte) ≠ [] ∧ State.reset.canTake ⟨p, 1, List.replicate n 0⟩ ∧ State.reset.QueuesBounded := by
  refine ⟨?_, ⟨by cases p <;> rfl, ?_⟩, fun q => by cases q <;> exact Nat.zero_le _⟩
  · obtain rfl | rfl := h <;> decide
  · obtain rfl | rfl := h <;> exact Nat.le_of_ble_eq_true rfl
theorem witness_GetEnergyReportsAndClearsMarks (p : Port) : (State.reset.port p).answer = none := by cases p <;> rfl
/-- The queue of the panel is full, and overflowed. -/
theorem witness_FetchTakesFourOldest (k : Fin 9) :
    let s := ready.setPort .panel ⟨.hunt, none, List.replicate k ⟨.loadShed, 0, 0, 0⟩, true⟩
    (s.port .panel).answer = none ∧ s.QueuesBounded := by
  refine ⟨rfl, fun p => ?_⟩
  have h : (List.replicate k.val (⟨.loadShed, 0, 0, 0⟩ : Notice)).length ≤ 8 := by rw [List.length_replicate]; omega
  cases p
  · exact h
  · exact Nat.zero_le _
  · exact Nat.zero_le _
theorem witness_RefusedRequestsChangeNothing :
    knownKind 23 = false ∧ knownKind 255 = false ∧ ready.canTake ⟨.panel, 1, List.replicate 56 0⟩ ∧
      (handlerOf 23 .panel [] ready).2.status.carriedOut = false := ⟨by decide, by decide, ready_canTake _ _ _ (by decide), by decide +kernel⟩
theorem witness_PortsKeepTheirRights : (21 : Byte) ∈ ([3, 4, 7, 8, 9, 15, 17, 20, 21] : List Byte) ∧ (4 : Byte) ∈ ([4, 9, 13, 14, 20, 21] : List Byte) ∧
    (13 : Byte) ∈ ([13, 14] : List Byte) ∧ (19 : Byte) ∈ ([5, 6, 10, 12, 16, 18, 19] : List Byte) ∧ State.reset.isReady = false := by decide +kernel
/-- STOP is the last command and has no rest, GOTO goes to the awning with two bytes. -/
theorem witness_PortsKeepTheirRights_move :
    (1 : Byte).toNat ≤ 1 ∧ (6 : Byte).toNat ≤ 6 ∧ ([] : List Byte).length = (if (6 : Byte) = 2 then 2 else 0) ∧
      ([0, 0] : List Byte).length = (if (2 : Byte) = 2 then 2 else 0) ∧ ((2 : Byte) = 2 → (1 : Byte) = 1) ∧ ((6 : Byte) = 2 → (0 : Byte) = 1) ∧
      State.reset.isReady = false ∧ (17 : Byte) ∈ ([3, 7, 8, 15, 17] : List Byte) := by decide +kernel
theorem witness_ReceiverJudgesEachByte (r : Receive) :
    let s := ready.setPort .gateway ⟨r, none, [], false⟩
    (s.port .gateway).answer = none ∧ (s.port .gateway).receive = r ∧
      ((ready.setPort .panel ⟨.hunt, some [], [], false⟩).port .panel).answer ≠ none := ⟨rfl, rfl, Option.some_ne_none _⟩
/-- The longest frame. -/
theorem witness_FrameBytesCarryOutTheRequest :
    let i := Instr.unknownKind 0 ⟨.gateway, 255, List.replicate 56 0xC3⟩
    i.frame = some (0, ⟨.gateway, 255, List.replicate 56 0xC3⟩) ∧ i.wf = true ∧ (ready.port .gateway).receive = .hunt ∧
      (ready.port .gateway).answer = none := by decide +kernel
theorem witness_FrameBytesCarryOutTheRequest_move :
    let i := Instr.moveGoto .panel 1 1 [0, 0]
    i.frame = some (11, ⟨.panel, 1, [1, 2, 0, 0]⟩) ∧ i.wf = true := by decide +kernel
theorem witness_PortsAbandonFinishAndReset :
    (setAnswer .panel (some []) ready).Settled ∧ ((setAnswer .panel (some []) ready).port .panel).answer ≠ none ∧ ready.Settled ∧
      (ready.port .panel).answer = none ∧ ∀ a, ¬ ((ready.axis a).mode = .jog ∧ (ready.axis a).jogPort = some .panel) :=
  ⟨rfl, Option.some_ne_none _, rfl, rfl, fun a => by cases a <;> decide +kernel⟩
theorem witness_PortsAbandonFinishAndReset_jog :
    awningJogs.Settled ∧ (awningJogs.port .panel).answer = none ∧ (awningJogs.axis .awning).mode = .jog ∧
      (awningJogs.axis .awning).jogPort = some .panel ∧ (awningJogs.axis .awning).state = .running ∧ (awningJogs.axis .awning).backOff = none ∧
      ¬ ((awningJogs.axis .step).mode = .jog ∧ (awningJogs.axis .step).jogPort = some .panel) := ⟨rfl, by decide +kernel⟩

/-- A jog that stops with a continuation. -/
def jogStopping (c : Continuation) : State :=
  ready.setAxis .step { runner (outwardEnd 240) 100 with
    state := .stopping, mode := .jog, jogPort := some .panel, jogLive := true, continuation := some c, lastPulse := false }

theorem witness_PortsAbandonFinishAndReset_stopping (c : Continuation) :
    (jogStopping c).Settled ∧ ((jogStopping c).port .panel).answer = none ∧ ((jogStopping c).axis .step).mode = .jog ∧
      ((jogStopping c).axis .step).jogPort = some .panel ∧ ((jogStopping c).axis .step).state = .stopping ∧
      ((jogStopping c).axis .step).continuation = some c ∧
      ¬ (((jogStopping c).axis .awning).mode = .jog ∧ ((jogStopping c).axis .awning).jogPort = some .panel) :=
  ⟨rfl, rfl, rfl, rfl, rfl, rfl, fun h => Mode.noConfusion h.1⟩

/-- Every queue holds eight notices, and a failing REFCHK waits. -/
def fullQueues : State :=
  let full : PortState := ⟨.hunt, none, List.replicate 8 ⟨.loadShed, 0, 0, 0⟩, false⟩
  { slowAt 7 [] ready with panel := full, chassis := full, gateway := full, pending := [.refchkComplete 0] }

theorem witness_StepKeepsQueuesBounded : fullQueues.QueuesBounded ∧ ∃ t, step fullQueues = .next t :=
  ⟨fun p => by cases p <;> exact Nat.le_of_ble_eq_true rfl, by rw [step_cons _ _ rfl]; exact exec_next ..⟩
theorem witness_StepKeepsQueuesBounded_settled : fullQueues.Settled ∧ ∃ t, step fullQueues = .next t :=
  ⟨rfl, by rw [step_cons _ _ rfl]; exact exec_next ..⟩
theorem witness_WritesStartHoldAndComplete (bytes : List Byte) :
    let s := { ready with sto := { ready.sto with writing := some bytes } }
    ready.Settled ∧ ready.sto.writing = none ∧ s.Settled ∧ s.sto.writing = some bytes ∧ ready.panel.answer = none ∧ s.panel.answer = none ∧
      ready.isReady = true ∧ s.isReady = true := ⟨rfl, rfl, rfl, rfl, rfl, rfl, rfl, rfl⟩
/-- The greatest and the least value of a scalar, for CRITICAL and a declared current. -/
theorem witness_PutSettingTakesTheClampedValue (v : Int) (h : v = -2147483648 ∨ v = 2147483647) :
    SettingId.ofNat 12 = some .criticalVoltage ∧ SettingId.ofNat 61 = some (.declared 13) ∧ ready.Settled ∧ ready.isReady = true ∧
      ready.panel.answer = none ∧ -2147483648 ≤ v ∧ v < 2147483648 := ⟨rfl, rfl, rfl, rfl, rfl, by omega, by omega⟩
/-- The acts on Cap, B, a floor, a dim cap, a travel and the fresh low, for a part with a SoC, masters' records, a plan and a level. -/
theorem witness_PutSettingTakesTheClampedValue_acts (lock : LockState) (level : Nat) :
    let u := stowed.setAxis .step { runner (outwardEnd 240) 100 with position := 100 }
    let s := { u with
      chg := (charged ready).chg, ldc := { u.ldc with soc := some 500 }, dlu := { u.dlu with lock := lock }
      cwc := { u.cwc with dump := .closed, temp := .fresh 15, fresh := ⟨some level, false, false, []⟩ } }
    SettingId.ofNat 2 = some .cap ∧ SettingId.ofNat 16 = some .batteryLimit ∧ SettingId.ofNat 20 = some (.floor .comfort) ∧
      SettingId.ofNat 64 = some (.dimCap 0) ∧ SettingId.ofNat 80 = some (.travel .step) ∧ SettingId.ofNat 96 = some .dumpThreshold ∧
      SettingId.ofNat 97 = some .freshLow ∧ (SettingId.travel .step).form = .scalar ∧ s.Settled ∧ s.isReady = true ∧ s.panel.answer = none ∧
      s.ldc.soc = some 500 ∧ s.chg.content = 50000 ∧ (s.axis .step).stowed = false ∧ (s.axis .step).plan = some (.single (outwardEnd 240)) ∧
      s.cwc.dump = .closed ∧ s.cwc.temp.value = some 15 ∧ s.granted outPad = false ∧ s.cwc.fresh.level = some level ∧
      s.cwc.fresh.fault = false :=
  ⟨rfl, rfl, rfl, rfl, rfl, rfl, rfl, rfl, rfl, rfl, rfl, rfl, rfl,
    (by decide +kernel : ({ runner (outwardEnd 240) 100 with position := 100 } : AxisRec).stowed = false), rfl, rfl, rfl,
    (by decide +kernel : (stowed.setAxis .step { runner (outwardEnd 240) 100 with position := 100 }).granted outPad = false), rfl, rfl⟩
theorem witness_PutSettingTakesTheClampedValue_records : (socGates 80).Settled ∧ (socGates 80).mastersOnly ∧ (socGates 80).isReady = true :=
  ⟨rfl, by unfold State.mastersOnly; decide +kernel, rfl⟩
/-- The tier of HEAT in FALLBACK, with the set mode ECO, and any other tier. -/
theorem witness_PutSettingTakesTheClampedValue_tier :
    let s := { ready with cwc := { ready.cwc with effMode := .fallback, setMode := .eco } }
    SettingId.ofNat 39 = some (.tier outHeat) ∧ SettingId.ofNat 32 = some (.tier 0) ∧ s.sto.live.tier[outHeat] ≠ .essential ∧
      s.cwc.effMode = .fallback ∧ tierCondition s.ldc .essential = .isOpen ∧ s.load outHeat = none ∧ 3 ≤ (3 : Byte).toNat ∧
      2 ≤ (2 : Byte).toNat := ⟨rfl, rfl, by decide +kernel, rfl, by decide +kernel, rfl, by decide, by decide⟩
/-- A factor table at the ends of its range, and one past them; an OCV table and a falling tank table at theirs. -/
theorem witness_PutSettingTakesTheClampedValue_tables :
    ((∀ k ∈ [64, 64, 100, 256, 256], 64 ≤ k ∧ k ≤ 256) ∧ [64, 64, 100, 256, 256].Pairwise (· ≤ ·)) ∧
      ¬ (∀ k ∈ [64, 64, 100, 256, 257], 64 ≤ k ∧ k ≤ 256) ∧ (∀ k ∈ [64, 64, 100, 256, 257], k < 65536) ∧
      (let l := [(0, 0), (1, 1), (2, 2), (3, 3), (4, 4), (5, 5), (6, 6), (20475, 1000)]
       l.length = 8 ∧ (∀ q ∈ l, q.1 ≤ 20475 ∧ q.2 ≤ 1000) ∧ (l.map (·.1)).Pairwise (· < ·) ∧ (l.map (·.2)).Pairwise (· < ·)) ∧
      (let l := [(4095, 0), (4, 0), (3, 1), (2, 2), (1, 3), (0, 100)]
       l.length = 6 ∧ (∀ q ∈ l, q.1 ≤ 4095 ∧ q.2 ≤ 100) ∧ (l.map (·.1)).Pairwise (· > ·) ∧ (l.map (·.2)).Pairwise (· ≤ ·)) := by decide
theorem witness_ChecksFindAnyChangedByte : (0 : Byte) ≠ 1 ∧ (0 : Byte) ≠ 0x80 := by decide

end Sys2Proof.Tests
end

section
/-! One fade step of OUT (R86): what it leaves alone, and what it does to each single output. -/

namespace Sys2Proof.OutputDrive

open Sys2Proof.Machine

/-! ## What a fade step leaves alone -/

/-- Only the levels and compare values of OUT may differ, and a gate-drive output that belongs to no record (R42) keeps its compare values. -/
structure FadeKeeps (s t : State) : Prop where
  onlyLevels : t = { s with out := { s.out with level := t.out.level, compare := t.out.compare, waiting := t.out.waiting } }
  otherGates : ∀ g : Fin 16, (∀ n, g ≠ recordGate n) → t.out.compare[g] = s.out.compare[g] ∧ t.out.waiting[g] = s.out.waiting[g]

theorem FadeKeeps.refl (s : State) : FadeKeeps s s := ⟨rfl, fun _ _ => ⟨rfl, rfl⟩⟩

theorem FadeKeeps.trans {s t u : State} (st : FadeKeeps s t) (tu : FadeKeeps t u) : FadeKeeps s u where
  onlyLevels := by rw [tu.onlyLevels, st.onlyLevels]
  otherGates g hg :=
    ⟨(tu.otherGates g hg).1.trans (st.otherGates g hg).1, (tu.otherGates g hg).2.trans (st.otherGates g hg).2⟩

theorem FadeKeeps.target {s t : State} (h : FadeKeeps s t) : t.out.target = s.out.target := by rw [h.onlyLevels]

theorem FadeKeeps.sto {s t : State} (h : FadeKeeps s t) : t.sto = s.sto := by rw [h.onlyLevels]

theorem fadeKeeps_setLevel (n : Fin 14) (v : Nat) (s : State) : FadeKeeps s (setLevel n v s) where
  onlyLevels := by unfold setLevel setCompare; split <;> rfl
  otherGates g hg := by simp [setLevel, setCompare_compare, setCompare_waiting, hg n]

theorem fadeKeeps_fadeOne (s : State) (n : Fin 14) : FadeKeeps s (fadeOne s n) := by
  unfold fadeOne
  split
  · exact .refl s
  · exact fadeKeeps_setLevel ..

theorem fadeKeeps_foldl (l : List (Fin 14)) (s : State) : FadeKeeps s (l.foldl fadeOne s) := by
  induction l generalizing s with
  | nil => exact .refl s
  | cons n l ih => exact (fadeKeeps_fadeOne s n).trans (ih _)

/-! ## What a fade step does to one output -/

/-- What OUT holds of one single output: its level, its compare value in force and the one that waits. -/
structure OutputState where
  level : Nat
  compare : Nat
  waiting : Option Nat

/-- The part of the state that a fade of record `n` is about. -/
def outputOf (s : State) (n : Fin 14) : OutputState :=
  ⟨s.out.level[n], s.out.compare[recordGate n], s.out.waiting[recordGate n]⟩

/-- An output takes a level, which is its compare value: 0 at once, another at the next wrap (R82, R83). -/
def OutputState.take (o : OutputState) (v : Nat) : OutputState :=
  ⟨v, if v = 0 then 0 else o.compare, if v = 0 then none else some v⟩

/-- R82 and R83 by case: the value is loaded at once, or waits with the one in force unchanged. -/
theorem OutputState.take_loads (o : OutputState) (v : Nat) :
    if v = 0 then (o.take v).compare = 0 ∧ (o.take v).waiting = none
    else (o.take v).compare = o.compare ∧ (o.take v).waiting = some v := by
  by_cases hv : v = 0 <;> simp [OutputState.take, hv]

/-- An output after its part of a fade step (R86). -/
def OutputState.fade (o : OutputState) (rate target : Nat) : OutputState :=
  if o.level = target then o else o.take (fadeToward rate o.level target)

theorem OutputState.fade_of_eq {o : OutputState} {target : Nat} (h : o.level = target) (rate : Nat) : o.fade rate target = o := if_pos h

theorem OutputState.fade_of_ne {o : OutputState} {target : Nat} (h : o.level ≠ target) (rate : Nat) :
    o.fade rate target = o.take (fadeToward rate o.level target) := if_neg h

theorem recordGate_eq_iff {m n : Fin 14} : recordGate m = recordGate n ↔ m = n := by
  simp [recordGate]

theorem outputOf_setLevel_same (n : Fin 14) (v : Nat) (s : State) : outputOf (setLevel n v s) n = (outputOf s n).take v := by
  by_cases hv : v = 0 <;> simp [outputOf, OutputState.take, setLevel, setCompare_compare, setCompare_waiting, hv]

theorem outputOf_setLevel_of_ne {m n : Fin 14} (h : m ≠ n) (v : Nat) (s : State) : outputOf (setLevel n v s) m = outputOf s m := by
  have hval : n.val ≠ m.val := fun e => h (Fin.ext e.symm)
  simp [outputOf, setLevel, setCompare_compare, setCompare_waiting, recordGate_eq_iff, h, Vector.getElem_set_ne, hval]

theorem outputOf_fadeOne_same (s : State) (n : Fin 14) :
    outputOf (fadeOne s n) n = (outputOf s n).fade (s.sto.live.fadeRateOf n) s.out.target[n] := by
  unfold fadeOne
  split
  case isTrue h => exact (OutputState.fade_of_eq h _).symm
  case isFalse h => exact (outputOf_setLevel_same ..).trans (OutputState.fade_of_ne h _).symm

theorem outputOf_fadeOne_of_ne {m n : Fin 14} (h : m ≠ n) (s : State) : outputOf (fadeOne s n) m = outputOf s m := by
  unfold fadeOne
  split
  · rfl
  · exact outputOf_setLevel_of_ne h ..

/-- A run of fades over different records fades each of them once, from where it stood. -/
theorem outputOf_foldl (l : List (Fin 14)) (hl : l.Nodup) (s : State) (n : Fin 14) :
    outputOf (l.foldl fadeOne s) n =
      if n ∈ l then (outputOf s n).fade (s.sto.live.fadeRateOf n) s.out.target[n] else outputOf s n := by
  induction l generalizing s with
  | nil => rfl
  | cons m l ih =>
    obtain ⟨hm, hl⟩ := List.nodup_cons.mp hl
    have kept := fadeKeeps_fadeOne s m
    rw [List.foldl_cons, ih hl, kept.target, kept.sto]
    by_cases h : n = m
    · subst h
      rw [if_neg hm, if_pos List.mem_cons_self, outputOf_fadeOne_same]
    · simp only [outputOf_fadeOne_of_ne h, List.mem_cons, h, false_or]

/-! ## FADE_STEP_EXPIRY -/

theorem mem_dimmedRecords (n : Fin 14) : n ∈ dimmedRecords ↔ n.val < 6 := by
  revert n; decide

theorem ne_recordGate_of_le {g : Fin 16} (hg : 14 ≤ g.val) (n : Fin 14) : g ≠ recordGate n := by
  rintro rfl
  exact absurd n.isLt (Nat.not_lt.mpr hg)

/-- A whole fade step at one single output: the DIMMED ones fade, the others stay. -/
theorem outputOf_fadeStep (s : State) (n : Fin 14) :
    outputOf (dimmedRecords.foldl fadeOne s) n =
      if n.val < 6 then (outputOf s n).fade (s.sto.live.fadeRateOf n) s.out.target[n] else outputOf s n := by
  simp only [outputOf_foldl dimmedRecords (by decide), mem_dimmedRecords]

/-- Settles O28: the fold over the DIMMED records, read output by output. -/
theorem fadeStepMovesEachLight : Obligations.FadeStepMovesEachLight := by
  intro s
  have kept := fadeKeeps_foldl dimmedRecords s
  refine ⟨_, _, _, congrArg Host.Outcome.next kept.onlyLevels, fun n => ?_,
    fun g hg => kept.otherGates g (ne_recordGate_of_le hg)⟩
  have faded := outputOf_fadeStep s n
  generalize dimmedRecords.foldl fadeOne s = t at faded ⊢
  dsimp only
  split
  case isTrue moves =>
    have taken : outputOf t n = (outputOf s n).take (fadeToward (s.sto.live.fadeRateOf n) s.out.level[n] s.out.target[n]) :=
      faded.trans ((if_pos moves.1).trans (OutputState.fade_of_ne moves.2 _))
    have level : t.out.level[n] = fadeToward (s.sto.live.fadeRateOf n) s.out.level[n] s.out.target[n] :=
      congrArg OutputState.level taken
    have loads := (outputOf s n).take_loads t.out.level[n]
    rw [level, ← taken, ← level] at loads
    exact ⟨level, loads⟩
  case isFalse stays =>
    have same : outputOf t n = outputOf s n := by
      rw [faded]
      split
      case isTrue dimmed => exact OutputState.fade_of_eq (not_not.mp fun ne => stays ⟨dimmed, ne⟩) _
      case isFalse => rfl
    exact ⟨congrArg OutputState.level same, congrArg OutputState.compare same, congrArg OutputState.waiting same⟩

end Sys2Proof.OutputDrive
end

section
/-! FETCH (R169): what the handler takes from a port's queue, and what the port holds and answers afterwards. -/

namespace Sys2Proof.FetchNotices

open Sys2Proof.Machine

theorem exec_fetch (f : Frame) (s : State) : exec (.fetch f) s = .next (takeRequest askFetch f.port f.tag f.payload s) := rfl

/-! ## The handler -/

theorem askFetch_of_empty (p : Port) (s : State) :
    askFetch p [] s = (s.setPort p (s.port p).afterFetch,
      ⟨.ok, fetchRecord ((s.port p).queue.take 4) ((s.port p).queue.drop 4) (s.port p).overflow⟩) := rfl

theorem askFetch_of_ne_nil (p : Port) {payload : List Byte} (s : State) (h : payload ≠ []) :
    askFetch p payload s = (s, .refuse .badLength) := if_pos h

/-- The answer's counts are those of the queue before the FETCH: at most four taken, and the rest left. -/
theorem fetchRecord_take_drop (l : List Notice) (overflow : Bool) :
    fetchRecord (l.take 4) (l.drop 4) overflow =
      [byteOf (min 4 l.length), byteOf (l.length - 4), markByte overflow] ++ (l.take 4).flatMap noticeBytes := by
  rw [fetchRecord, List.length_take, List.length_drop]

/-! ## The port afterwards -/

/-- The attention line is low after a FETCH exactly when a notice is left: the mark is clear (R168). -/
theorem attentionLow_afterFetch (q : PortState) : q.afterFetch.attentionLow = decide (4 < q.queue.length) := by
  rw [Bool.eq_iff_iff, decide_eq_true_iff]
  simp [PortState.attentionLow, PortState.afterFetch]

/-- A FETCH without payload: the port returns to HUNT, ANSWERING with the taken notices, and keeps the rest of its queue. -/
theorem takeRequest_askFetch_of_empty (p : Port) (tag : Byte) (s : State) (idle : (s.port p).answer = none) :
    takeRequest askFetch p tag [] s = s.setPort p { (s.port p).afterFetch with
      receive := .hunt
      answer := some (answerFrame tag
        ⟨.ok, fetchRecord ((s.port p).queue.take 4) ((s.port p).queue.drop 4) (s.port p).overflow⟩) } := by
  have taken := takeRequest_of_canTake askFetch ⟨p, tag, []⟩ (s := s) ⟨idle, Nat.zero_le _⟩
  simpa [askFetch_of_empty, setAnswer, setReceive, PortState.afterFetch] using taken

/-- Settles O50: the handler's effect on the port, with the counts of the answer read off the queue. -/
theorem fetchTakesFourOldest : Obligations.FetchTakesFourOldest := by
  intro p tag s _
  refine ⟨fun idle => ⟨?_, attentionLow_afterFetch (s.port p)⟩, fun payload nonempty free => ?_⟩
  · rw [exec_fetch, takeRequest_askFetch_of_empty p tag s idle, fetchRecord_take_drop]
    rfl
  · rw [exec_fetch, takeRequest_of_unchanged askFetch ⟨p, tag, payload⟩ _ free (askFetch_of_ne_nil p _ nonempty)]
    rfl

end Sys2Proof.FetchNotices
end

section
/-! IDENT (R178): its items, byte by byte, and what taking the frame leaves of the state. -/

namespace Sys2Proof.IdentAnswer

open Sys2Proof.Machine

theorem exec_ident (f : Frame) (s : State) : exec (.ident f) s = .next (takeRequest askIdent f.port f.tag f.payload s) := rfl

/-! ## The items -/

/-- The low byte of a counter, then its high byte (R179). -/
theorem le2n_toNat (v : Word16) : le2n v.toNat = [v.extractLsb' 0 8, v.extractLsb' 8 8] := by
  simp only [le2n, le2, BitVec.ofInt_natCast, BitVec.ofNat_toNat, BitVec.setWidth_eq]
  rw [BitVec.setWidth_ushiftRight_eq_extractLsb, BitVec.setWidth_eq_extractLsb' (by decide)]

theorem byteOf_resetCause_code (c : ResetCause) : byteOf c.code = if c = .powerOn then 0 else 1 := by
  cases c <;> rfl

theorem markByte_isReady (s : State) : markByte s.isReady = if s.sto.phase = .ready then 1 else 0 := by
  simp only [markByte, State.isReady, beq_iff_eq]

theorem markByte_not (b : Bool) : markByte (!b) = if b then 0 else 1 := by
  cases b <;> rfl

theorem markByte_isSome {α : Type} [DecidableEq α] (o : Option α) : markByte o.isSome = if o = none then 0 else 1 := by
  cases o <;> rfl

/-- The twelve bytes: part code and revision, cause, READY, bad record, WRITING, held checkpoint, write count, notice clock. -/
theorem identRecord_eq (s : State) : identRecord s =
    [0x12, 0x48, 1, if s.sto.cause = .powerOn then 0 else 1, if s.sto.phase = .ready then 1 else 0, if s.sto.recordGood then 0 else 1,
      if s.sto.writing = none then 0 else 1, if s.sto.heldCheckpoint then 1 else 0,
      s.sto.writeCount.extractLsb' 0 8, s.sto.writeCount.extractLsb' 8 8, s.noticeClock.extractLsb' 0 8, s.noticeClock.extractLsb' 8 8] := by
  rw [identRecord, le2n_toNat, le2n_toNat, byteOf_resetCause_code, markByte_isReady, markByte_not, markByte_isSome]
  rfl

/-- No item is of a port: the record is the same while the frame is received and after it. -/
theorem identRecord_setReceive (p : Port) (r : Receive) (s : State) : identRecord (setReceive p r s) = identRecord s := by
  simp [identRecord]

/-! ## The handler -/

theorem askIdent_of_empty (p : Port) (s : State) : askIdent p [] s = (s, ⟨.ok, identRecord s⟩) := rfl

theorem askIdent_of_ne_nil (p : Port) {payload : List Byte} (s : State) (h : payload ≠ []) :
    askIdent p payload s = (s, ⟨.badLength, []⟩) := if_pos h

/-- Settles O48: neither branch of the handler changes the state, and the record of the one is read off item by item. -/
theorem identCarriesItsItems : Obligations.IdentCarriesItsItems := by
  refine fun p tag s => ⟨fun idle => ?_, fun payload nonempty free => ?_⟩
  · have handled : askIdent p [] (setReceive p .hunt s) = (setReceive p .hunt s, ⟨.ok, identRecord s⟩) := by
      rw [askIdent_of_empty, identRecord_setReceive]
    rw [exec_ident, takeRequest_of_unchanged askIdent ⟨p, tag, []⟩ _ ⟨idle, Nat.zero_le _⟩ handled, identRecord_eq]
  · rw [exec_ident, takeRequest_of_unchanged askIdent ⟨p, tag, payload⟩ _ free (askIdent_of_ne_nil p _ nonempty)]

end Sys2Proof.IdentAnswer
end
